-- ==== Sys2Proof/Word.lean ====
section
/-! DEFINITION. The word types of the CRSF receive core (00_scope.md R6, R7, R10; 10_state.md R20, R35). -/

namespace Sys2Proof

/-- One byte, bit 7 the most significant (R10). -/
abbrev Byte := BitVec 8

/-- A microsecond timestamp: TS_WIDTH = 32 bits, wrapping modulo 2^32 (R7). -/
abbrev Stamp := BitVec 32

/-- One channel value: CH_BITS = 11 bits, 0 to 2047 (R6). -/
abbrev ChVal := BitVec 11

/-- An index of the frame buffer, 0 to 63: the cursor `pos` and the read index `fb_rd_addr` (R20, R35). -/
abbrev BufIdx := BitVec 6

/-- An index of the channel registers, 0 to 15: the read index `ch_idx` (R35). -/
abbrev ChIdx := BitVec 4

/-- The payload size P = S - 4 of a complete frame. A complete frame has 4 ≤ S ≤ 64 (R126), so P is 0 to 60 (R56, R71). -/
abbrev PayloadLen := Fin 61

/-- The total size S = P + 4 of a complete frame with payload size P (R71). -/
def PayloadLen.total (P : PayloadLen) : Nat := P.val + 4

end Sys2Proof
end

