-- ==== Sys2Proof/Machine/Crc8.lean ====
section
/-! DEFINITION. The CRC-8 primitive (40_checksum.md R100), shared by FRAME_CRC, CMD_CRC and the frame encoder. -/

namespace Sys2Proof.Machine

/-- One shift of R100: out goes bit 7, and a one shifted out adds the polynomial. -/
def crc8Shift (poly c : Byte) : Byte :=
  if c.getLsbD 7 then (c <<< 1) ^^^ poly else c <<< 1

/-- One byte of R100: add the byte, then eight shifts. -/
def crc8Byte (poly c b : Byte) : Byte :=
  Nat.repeat (crc8Shift poly) 8 (c ^^^ b)

/-- `CRC8(poly, bytes)`: initial value 0x00, bytes in list order, no reflection, no final XOR (R100). -/
def crc8 (poly : Byte) (bytes : List Byte) : Byte :=
  bytes.foldl (crc8Byte poly) 0

end Sys2Proof.Machine
end

