-- ==== Sys2Proof/Syntax.lean ====
section
/-! DEFINITION. The operations of the block: one constructor of `Instr` per row of spec/opcode_table.json, the eleven
kinds of frame the dispatcher tells apart (42_dispatcher.md R151), and the input pattern of one step (10_state.md R35). -/

namespace Sys2Proof

/-- What the dispatcher's type decode can answer: the ten frame types and the catch-all (R78, R151). -/
inductive FrameKind where
  | rcFixed | rcSubset | mspReq | mspWrite | devicePing | displayport
  | linkStats | linkStatsRx | linkStatsTx | command | unknownType
  deriving DecidableEq, Repr

/-- The operations of the block, one constructor per row of spec/opcode_table.json.

The first six are the port operations (30_encoding.md R77) with their operand fields. The next eleven are the arms of
the dispatcher, which run inside the step whose BYTE_IN completes a CRC-valid frame (42_dispatcher.md R150); their operands
are the frame standing in the frame buffer and its size, given here as the payload size `P = S - 4`. The last two are the
checksum functions (40_checksum.md R102, R104), with the same operands. -/
inductive Instr where
  /-- RESET, operand `cfg_ch_default` (R230). -/
  | reset (chDefault : ChVal)
  /-- BYTE_IN, operands `byte_in`, `ts_in` and the sampled `cfg_rssi_src_crsf` (R120). -/
  | byteIn (byte : Byte) (ts : Stamp) (rssiSrcCrsf : Bool)
  /-- POLL (R180). -/
  | poll
  /-- NOP: no strobe in this step (R135). -/
  | nop
  /-- READ_CH, operand `ch_idx` (R188). -/
  | readCh (idx : ChIdx)
  /-- FB_READ, operand `fb_rd_addr` (R57). -/
  | fbRead (addr : BufIdx)
  /-- RC_FIXED: a fixed-format RC-channel frame (R152, R154). -/
  | rcFixed (P : PayloadLen)
  /-- RC_SUBSET: a subset-format RC-channel frame (R153, R154). -/
  | rcSubset (P : PayloadLen)
  /-- MSP_REQ: an MSP request frame (R155). -/
  | mspReq (P : PayloadLen)
  /-- MSP_WRITE: an MSP write frame (R155). -/
  | mspWrite (P : PayloadLen)
  /-- DEVICE_PING (R156). -/
  | devicePing (P : PayloadLen)
  /-- DISPLAYPORT (R157). -/
  | displayport (P : PayloadLen)
  /-- LINK_STATS, with `cfg_rssi_src_crsf` as sampled in the completing step (R158). -/
  | linkStats (P : PayloadLen) (rssiSrcCrsf : Bool)
  /-- LINK_STATS_RX (R159). -/
  | linkStatsRx (P : PayloadLen)
  /-- LINK_STATS_TX (R160). -/
  | linkStatsTx (P : PayloadLen)
  /-- COMMAND (R161). -/
  | command (P : PayloadLen)
  /-- UNKNOWN_TYPE: the type byte `t` selects no arm (R162). -/
  | unknownType (t : Byte)
  /-- FRAME_CRC over the frame in the buffer (R102). -/
  | frameCrc (P : PayloadLen)
  /-- CMD_CRC over the frame in the buffer (R104). -/
  | cmdCrc (P : PayloadLen)
  deriving DecidableEq, Repr

/-- The input signals, all sampled once per step (10_state.md R35). -/
structure Inputs where
  /-- `rst`: 1 = perform RESET this step. -/
  rst : Bool
  /-- `byte_valid`: 1 = an inbound byte is presented this step. -/
  byteValid : Bool
  /-- `byte_in`: the inbound byte. -/
  byteIn : Byte
  /-- `ts_in`: microsecond timestamp of the byte. -/
  tsIn : Stamp
  /-- `poll`: 1 = frame-status poll this step. -/
  poll : Bool
  /-- `ch_idx`: channel read index. -/
  chIdx : ChIdx
  /-- `fb_rd_addr`: frame-buffer read index. -/
  fbRdAddr : BufIdx
  /-- `cfg_rssi_src_crsf` (R32). -/
  cfgRssiSrcCrsf : Bool
  /-- `cfg_ch_default` (R33). -/
  cfgChDefault : ChVal
  deriving DecidableEq, Repr, Inhabited

/-- No strobe, every field zero: the pattern from which an encoded operation is built. -/
def Inputs.zero : Inputs where
  rst := false
  byteValid := false
  byteIn := 0
  tsIn := 0
  poll := false
  chIdx := 0
  fbRdAddr := 0
  cfgRssiSrcCrsf := false
  cfgChDefault := 0

end Sys2Proof
end

