-- ==== Sys2Proof/Config.lean ====
section
/-! DEFINITION. The constants the source fixes (00_scope.md R6), the parameters it leaves to the instance (R8) with their
reference values (R9), and the model's one free value: what the host drives when the input queue is empty. -/

namespace Sys2Proof.Config

/-- FRAME_MAX: capacity of the frame buffer in bytes, and the maximum total frame size (R6). -/
def frameMax : Nat := 64

/-- The smallest size of a well-formed frame: address, length, type and CRC (30_encoding.md R72). -/
def frameMin : Nat := 4

/-- NUM_CH: number of channel registers (R6). -/
def numCh : Nat := 16

/-- T_RESYNC_US: inter-frame resynchronisation timeout in microseconds (R6). -/
def resyncUs : Nat := 1100

/-- PROVISIONAL_SIZE: total size assumed while the cursor is below 3 (R6). -/
def provisionalSize : Nat := 5

/-- ERR_THRESHOLD: consecutive-error count that triggers the fallback request (R6). -/
def errThreshold : Nat := 100

/-- EXT_HDR: origin and destination bytes stripped from an MSP payload (R6). -/
def extHdr : Nat := 2

/-- REFRESH_US: refresh interval the channel read contract reports (R6). -/
def refreshUs : Nat := 6667

/-- POLY_FRAME: the FRAME_CRC polynomial, x^8 term implicit (R6, R101). -/
def polyFrame : Byte := 0xD5#8

end Sys2Proof.Config

namespace Sys2Proof

/-- P_CMD_ADDR_INDEX: the index of the command frame's checked address byte, 3 or 4 (R8). -/
inductive CmdAddrIndex where
  | idx3 | idx4
  deriving DecidableEq, Repr

/-- The frame-buffer index that P_CMD_ADDR_INDEX stands for. -/
def CmdAddrIndex.toNat : CmdAddrIndex → Nat
  | .idx3 => 3
  | .idx4 => 4

/-- The parameters of a block instance: "Each value is fixed for the life of a model instance" (R8). -/
structure Params where
  /-- P_V3: the protocol option version 3 (R3). -/
  v3 : Bool
  /-- P_TELEM: enables the MSP, device-ping and display-port routes. -/
  telem : Bool
  /-- P_ADDR_FC: address byte of the flight controller. -/
  addrFc : Byte
  /-- P_TYPE_RC. -/
  typeRc : Byte
  /-- P_TYPE_SUBSET. -/
  typeSubset : Byte
  /-- P_TYPE_LINKSTATS. -/
  typeLinkStats : Byte
  /-- P_TYPE_LINKSTATS_RX. -/
  typeLinkStatsRx : Byte
  /-- P_TYPE_LINKSTATS_TX. -/
  typeLinkStatsTx : Byte
  /-- P_TYPE_PING. -/
  typePing : Byte
  /-- P_TYPE_COMMAND. -/
  typeCommand : Byte
  /-- P_TYPE_MSP_REQ. -/
  typeMspReq : Byte
  /-- P_TYPE_MSP_WRITE. -/
  typeMspWrite : Byte
  /-- P_TYPE_DISPLAYPORT. -/
  typeDisplayport : Byte
  /-- P_POLY_CMD: the CMD_CRC polynomial. -/
  polyCmd : Byte
  /-- P_LINKSTATS_LEN: expected payload length of a link-statistics frame, 0 to 60. -/
  linkStatsLen : PayloadLen
  /-- P_CMD_ADDR_INDEX. -/
  cmdAddrIndex : CmdAddrIndex
  /-- P_CMD_ADDR_VALUE: the value that byte must hold. -/
  cmdAddrValue : Byte
  deriving DecidableEq, Repr

/-- The ten frame-type codes, in the order of R8's table. -/
def Params.typeCodes (p : Params) : List Byte :=
  [p.typeRc, p.typeSubset, p.typeLinkStats, p.typeLinkStatsRx, p.typeLinkStatsTx, p.typePing, p.typeCommand,
    p.typeMspReq, p.typeMspWrite, p.typeDisplayport]

/-- The constraints of R8: the ten P_TYPE_* pairwise distinct, and P_POLY_CMD ≠ POLY_FRAME (R103). The ranges of
P_LINKSTATS_LEN and P_CMD_ADDR_INDEX are in their types. -/
abbrev Params.Valid (p : Params) : Prop :=
  p.typeCodes.Nodup ∧ p.polyCmd ≠ Config.polyFrame

/-- The reference configuration REF (R8, R9). PRESUMED: the spec marks the codes, the address, the command polynomial and
the length as general knowledge, and the command check's index and value as test choices only (log entries 3, 13). -/
def Params.ref : Params where
  v3 := true
  telem := true
  addrFc := 0xC8#8
  typeRc := 0x16#8
  typeSubset := 0x17#8
  typeLinkStats := 0x14#8
  typeLinkStatsRx := 0x1C#8
  typeLinkStatsTx := 0x1D#8
  typePing := 0x28#8
  typeCommand := 0x32#8
  typeMspReq := 0x7A#8
  typeMspWrite := 0x7C#8
  typeDisplayport := 0x7D#8
  polyCmd := 0xBA#8
  linkStatsLen := 10
  cmdAddrIndex := .idx3
  cmdAddrValue := 0xC8#8

/-- REF's `cfg_ch_default` (R9). -/
def Config.refChDefault : ChVal := 992#11

/-- What the host drives in a step for which the input queue names nothing: a FREE VALUE, applied to a counter that the
step advances. "A claim about the block quantifies over every input sequence the host may drive" (R19). DESIGN CHOICE
(log entry 2), safe: nothing can be proved of its value. -/
opaque Config.hostInput : Nat → Inputs

end Sys2Proof
end

