-- ==== Sys2Proof/Machine/State.lean ====
section
/-! DEFINITION. The state of the block as plain data (10_state.md R20), the outputs of a step (R36), the state right after
reset (R37), and the reasons a step could stop, of which the block has none (60_exceptions.md R210). -/

namespace Sys2Proof.Machine

/-- A 64-byte buffer (20_memory.md R50) as a list of (index, byte) in one canonical form: indices strictly rising, below 64,
and no entry for a byte 0x00. An unlisted index reads 0x00, which is what RESET leaves everywhere (10_state.md R37). -/
abbrev Memory := List Host.Cell

/-- The canonical form of a buffer. -/
def Memory.wf : Memory → Bool
  | [] => true
  | (a, v) :: m => decide (a < 64) && v != 0 && m.all (fun c => decide (a < c.1)) && Memory.wf m

/-- `rx_event`: the classification of a step's byte (41_frame_assembler.md R132). Codes 6 and 7 are never emitted. -/
inductive RxEvent where
  | idle | stored | storedResync | frameValid | crcError | framingError
  deriving DecidableEq, Repr

/-- `disp_route`: the dispatcher's decision (42_dispatcher.md R163). Codes 10 to 15 are never driven. -/
inductive RouteCode where
  | none | rcFixed | rcSubset | msp | devicePing | displayport | linkStats | linkStatsRx | linkStatsTx | command
  deriving DecidableEq, Repr

/-- `filt_reason`: why a CRC-valid frame was not routed (42_dispatcher.md R167). Codes 6 and 7 are never driven. -/
inductive FiltReason where
  | none | unknownType | addrMismatch | gated | cmdCrcMismatch | cmdAddrMismatch
  deriving DecidableEq, Repr

/-- `poll_status` (43_channel_unpacker.md R181). -/
inductive PollStatus where
  | pending | complete
  deriving DecidableEq, Repr

/-- The output signals of one step (10_state.md R36). -/
structure Outputs where
  /-- `rx_event`, 3 bits. -/
  rxEvent : RxEvent
  /-- `disp_valid`: 1 = a validated frame is routed this step. -/
  dispValid : Bool
  /-- `disp_route`, 4 bits. -/
  dispRoute : RouteCode
  /-- `disp_type`: type byte of the routed frame. -/
  dispType : Byte
  /-- `disp_size`: total size S of the routed frame. -/
  dispSize : BitVec 7
  /-- `disp_pl_off`: frame-buffer index of the first payload byte handed to the consumer. -/
  dispPlOff : BitVec 6
  /-- `disp_pl_len`: number of payload bytes handed to the consumer. -/
  dispPlLen : BitVec 6
  /-- `filt_reason`, 3 bits. -/
  filtReason : FiltReason
  /-- `fallback_req`: 1 = request the transport to revert to the default baud rate. -/
  fallbackReq : Bool
  /-- `poll_done`: 1 = a poll was served this step. -/
  pollDone : Bool
  /-- `poll_status`: 1 = COMPLETE, 0 = PENDING. -/
  pollStatus : PollStatus
  /-- `ch_data`: `ch[ch_idx]` at the start of the step. -/
  chData : ChVal
  /-- `fb_rd_data`: `fb[fb_rd_addr]` at the start of the step. -/
  fbRdData : Byte
  /-- `num_channels`: constant 16 (R189). -/
  numChannels : BitVec 5
  /-- `refresh_us`: constant 6667 (R189). -/
  refreshUs : BitVec 13
  deriving DecidableEq, Repr

/-- Every output at its idle value, "0 for strobes, codes and data fields" (00_scope.md R14), and the two constants (R189). -/
def Outputs.idle : Outputs where
  rxEvent := .idle
  dispValid := false
  dispRoute := .none
  dispType := 0
  dispSize := 0
  dispPlOff := 0
  dispPlLen := 0
  filtReason := .none
  fallbackReq := false
  pollDone := false
  pollStatus := .pending
  chData := 0
  fbRdData := 0
  numChannels := BitVec.ofNat 5 Config.numCh
  refreshUs := BitVec.ofNat 13 Config.refreshUs

/-- The results of the two checksum functions inside one step (40_checksum.md R102, R104): the computed value and the
comparison. The model's own field, idle at the start of every step (log entry 6). -/
structure CrcWires where
  /-- `FRAME_CRC(fb', S)`. -/
  frameCrc : Byte
  /-- `frame_ok`. -/
  frameOk : Bool
  /-- `CMD_CRC(fb', S)`. -/
  cmdCrc : Byte
  /-- `cmd_ok`. -/
  cmdOk : Bool
  deriving DecidableEq, Repr

/-- Neither function evaluated. -/
def CrcWires.idle : CrcWires where
  frameCrc := 0
  frameOk := false
  cmdCrc := 0
  cmdOk := false

/-- The state. The seven fields from `fb` to `ch` are the spec's whole tuple (10_state.md R20: "There is no other state").
`params` holds the instance's parameters (R8, log entry 3). The last four are the model's own: what the host will drive
(log entry 2) and what the last step drove (log entries 5, 6). -/
structure State where
  /-- The parameters of the instance; no operation writes them. -/
  params : Params
  /-- `fb[0..63]`: the frame buffer (R21). -/
  fb : Memory
  /-- `pos`: the byte-position cursor (R22). -/
  pos : BufIdx
  /-- `t_start`: the frame-start timestamp (R24). -/
  tStart : Stamp
  /-- `err_cnt`: the consecutive-error counter (R25). -/
  errCnt : BitVec 7
  /-- `snap[0..63]`: the RC-channel snapshot (R26). -/
  snap : Memory
  /-- `ready`: the frame-ready latch (R27). -/
  ready : Bool
  /-- `ch[0..15]`: the channel registers (R28). -/
  ch : Vector ChVal 16
  /-- What the host drives in the coming steps, the next step's pattern first. -/
  inputs : List Inputs
  /-- Steps taken on a pattern the queue did not name; makes each such pattern a fresh free value. -/
  hostClock : Nat
  /-- The outputs driven in the step that led here. -/
  out : Outputs
  /-- The checksum results of that step. -/
  crc : CrcWires
  deriving DecidableEq, Repr

/-- The machine right after a RESET step (10_state.md R37, R38) of the reference configuration with `cfg_ch_default = 992`
(00_scope.md R9), and nothing said of what the host drives next. -/
def State.reset : State where
  params := Params.ref
  fb := []
  pos := 0
  tStart := 0
  errCnt := 0
  snap := []
  ready := false
  ch := Vector.replicate 16 Config.refChDefault
  inputs := []
  hostClock := 0
  out := Outputs.idle
  crc := CrcWires.idle

/-- The faults of the block: none. "A model has no fault outcome for this block" (60_exceptions.md R210). With no
constructor nobody can raise one; safe. -/
inductive Fault where
  deriving DecidableEq, Repr

/-- The refusals of the model. -/
inductive Refusal where
  /-- Raised by exec's arm for an operation that has no meaning yet, with its mnemonic; safe (the machine stops). No arm
  raises it: every operation has its meaning. -/
  | notModelled (mnemonic : String)
  deriving DecidableEq, Repr

end Sys2Proof.Machine
end

