-- ==== Sys2Proof/Machine/Ops.lean ====
section
/-! DEFINITION. The named operations over buffers, registers, inputs and outputs. Every meaning reads and writes the state
through these. The block takes no exception and returns from none (60_exceptions.md R210, R215, R216): an error event is an
output code and the counter update of Flags.lean. -/

namespace Sys2Proof.Machine

/-! ## Buffers -/

/-- `fb[a]`, `snap[a]` (R13): an unlisted index reads 0x00, the reset content (R37). -/
def Memory.read : Memory → Nat → Byte
  | [], _ => 0
  | (k, v) :: m, a => if k = a then v else Memory.read m a

/-- Remove the entry of index `a`: the byte there becomes 0x00. -/
def Memory.clear (m : Memory) (a : Nat) : Memory :=
  m.filter fun c => c.1 != a

/-- Put `v` at index `a`, keeping the indices rising. -/
def Memory.insert : Memory → Nat → Byte → Memory
  | [], a, v => [(a, v)]
  | (k, w) :: m, a, v =>
    if k = a then (a, v) :: m
    else if a < k then (a, v) :: (k, w) :: m
    else (k, w) :: Memory.insert m a v

/-- `fb[a] <- v` (R13, R21): the index is six bits wide, so no write reaches an index of 64 or more. -/
def Memory.write (m : Memory) (a : BufIdx) (v : Byte) : Memory :=
  if v = 0 then m.clear a.toNat else m.insert a.toNat v

/-- `fb[a..b]`: the bytes from index `a` to index `b`, empty when b < a (R12). -/
def Memory.slice (m : Memory) (a b : Nat) : List Byte :=
  (List.range (b + 1 - a)).map fun j => m.read (a + j)

/-! ## Inputs -/

/-- The input pattern sampled in this step (R35): the head of the queue, and past its end a free value (log entry 2). -/
def State.currentInput (s : State) : Inputs :=
  match s.inputs with
  | x :: _ => x
  | [] => Config.hostInput s.hostClock

/-- The start of a step: the pattern is consumed and every output returns to idle (R14, R239). -/
def State.beginStep (s : State) : State :=
  match s.inputs with
  | _ :: xs => { s with inputs := xs, out := Outputs.idle, crc := CrcWires.idle }
  | [] => { s with hostClock := s.hostClock + 1, out := Outputs.idle, crc := CrcWires.idle }

/-! ## Outputs -/

/-- `emit rx_event = e` (R132). -/
def State.emitRx (s : State) (e : RxEvent) : State :=
  { s with out := { s.out with rxEvent := e } }

/-- `emit fallback_req = 1` (R130). -/
def State.emitFallback (s : State) : State :=
  { s with out := { s.out with fallbackReq := true } }

/-- The dispatch outputs of a routed frame (R163): route code, type byte, total size and payload window; `filt_reason` is 0. -/
def State.emitDispatch (s : State) (r : RouteCode) (P : PayloadLen) (win : Nat × Nat) : State :=
  { s with out := { s.out with
      dispValid := true
      dispRoute := r
      dispType := s.fb.read 2
      dispSize := BitVec.ofNat 7 P.total
      dispPlOff := BitVec.ofNat 6 win.1
      dispPlLen := BitVec.ofNat 6 win.2
      filtReason := .none } }

/-- The outputs of a CRC-valid frame that is not routed (R163, R167): the reason, and all six dispatch fields 0. -/
def State.emitFilter (s : State) (r : FiltReason) : State :=
  { s with out := { s.out with
      dispValid := false
      dispRoute := .none
      dispType := 0
      dispSize := 0
      dispPlOff := 0
      dispPlLen := 0
      filtReason := r } }

/-- `emit poll_done = 1`, `emit poll_status = st` (R181). -/
def State.emitPoll (s : State) (st : PollStatus) : State :=
  { s with out := { s.out with pollDone := true, pollStatus := st } }

/-- `emit ch_data = v` (R188). -/
def State.emitChData (s : State) (v : ChVal) : State :=
  { s with out := { s.out with chData := v } }

/-- `emit fb_rd_data = v` (R57). -/
def State.emitFbData (s : State) (v : Byte) : State :=
  { s with out := { s.out with fbRdData := v } }

/-- The outputs of a RESET step: all idle but the two read ports and the constants (R38). -/
def State.emitResetIdle (s : State) : State :=
  { s with out := { Outputs.idle with chData := s.out.chData, fbRdData := s.out.fbRdData } }

/-! ## Registers -/

/-- `pos <- p`. -/
def State.setPos (s : State) (p : BufIdx) : State :=
  { s with pos := p }

/-- `t_start <- ts`. -/
def State.setTStart (s : State) (ts : Stamp) : State :=
  { s with tStart := ts }

/-- `err_cnt <- e`. -/
def State.setErrCnt (s : State) (e : BitVec 7) : State :=
  { s with errCnt := e }

/-- `fb[p] <- b` (R125). -/
def State.storeByte (s : State) (p : BufIdx) (b : Byte) : State :=
  { s with fb := s.fb.write p b }

/-- `snap <- fb'`: all 64 bytes in one step (R26, R152). -/
def State.takeSnapshot (s : State) : State :=
  { s with snap := s.fb }

/-- `ready <- r`. -/
def State.setReady (s : State) (r : Bool) : State :=
  { s with ready := r }

/-- The channel registers, all written at once. -/
def State.setCh (s : State) (v : Vector ChVal 16) : State :=
  { s with ch := v }

/-- The values RESET leaves (R37, R230): both buffers 0x00, cursor, timestamp, counter and latch 0, every channel `d`. -/
def State.clearAll (s : State) (d : ChVal) : State :=
  { s with
    fb := []
    snap := []
    pos := 0
    tStart := 0
    errCnt := 0
    ready := false
    ch := Vector.replicate 16 d }

/-- The result of FRAME_CRC in this step (R102). -/
def State.latchFrameCrc (s : State) (c : Byte) (ok : Bool) : State :=
  { s with crc := { s.crc with frameCrc := c, frameOk := ok } }

/-- The result of CMD_CRC in this step (R104). -/
def State.latchCmdCrc (s : State) (c : Byte) (ok : Bool) : State :=
  { s with crc := { s.crc with cmdCrc := c, cmdOk := ok } }

/-! ## Sequencing -/

/-- Go on with a next state, stop at a fault or a refusal. -/
def andThen (o : Host.Outcome State Fault Refusal) (f : State → Host.Outcome State Fault Refusal) :
    Host.Outcome State Fault Refusal :=
  match o with
  | .next s => f s
  | .fault r => .fault r
  | .refused r => .refused r

/-- Run the operations of one step in their order. -/
def runOps (run : Instr → State → Host.Outcome State Fault Refusal) :
    List Instr → State → Host.Outcome State Fault Refusal
  | [], s => .next s
  | i :: is, s => andThen (run i s) (runOps run is)

/-! ## Output codes -/

/-- The 3-bit code of `rx_event` (R132). -/
def RxEvent.code : RxEvent → BitVec 3
  | .idle => 0
  | .stored => 1
  | .storedResync => 2
  | .frameValid => 3
  | .crcError => 4
  | .framingError => 5

/-- The 4-bit code of `disp_route` (R163). -/
def RouteCode.code : RouteCode → BitVec 4
  | .none => 0
  | .rcFixed => 1
  | .rcSubset => 2
  | .msp => 3
  | .devicePing => 4
  | .displayport => 5
  | .linkStats => 6
  | .linkStatsRx => 7
  | .linkStatsTx => 8
  | .command => 9

/-- The 3-bit code of `filt_reason` (R167). -/
def FiltReason.code : FiltReason → BitVec 3
  | .none => 0
  | .unknownType => 1
  | .addrMismatch => 2
  | .gated => 3
  | .cmdCrcMismatch => 4
  | .cmdAddrMismatch => 5

/-- The bit of `poll_status` (R181). -/
def PollStatus.code : PollStatus → BitVec 1
  | .pending => 0
  | .complete => 1

end Sys2Proof.Machine
end

