-- ==== Sys2Proof/Machine/Operands.lean ====
section
/-! DEFINITION. Operand assembly: the frame's size, regions and payload window, and the channel fields of a snapshot
(30_encoding.md R71, R80, R81; 40_checksum.md R102, R104; 42_dispatcher.md R155, R164). -/

namespace Sys2Proof.Machine

/-! ## Frame size, regions, window -/

/-- S at cursor `p`: the provisional size below 3, else `fb[1] + 2` without wrap-around, 2 to 257 (R123). -/
def frameSizeAt (m : Memory) (p : BufIdx) : Nat :=
  if p.toNat < 3 then Config.provisionalSize else (m.read 1).toNat + 2

/-- The bounds check (R124): a size of 4 to 64 as its payload size P = S - 4, none for a framing error. -/
def payloadLenOf (S : Nat) : Option PayloadLen :=
  if h : Config.frameMin ≤ S ∧ S ≤ Config.frameMax then
    some ⟨S - 4, by have h2 := h.2; simp only [Config.frameMax] at h2; omega⟩
  else none

/-- The bytes FRAME_CRC covers: `fb[2..S-2]`, type byte then every payload byte (R102). -/
def frameRegion (m : Memory) (P : PayloadLen) : List Byte :=
  m.slice 2 (P.total - 2)

/-- The bytes CMD_CRC covers: `[fb[2]] ++ fb[3..S-3]`, type byte then the payload without its last byte (R104). -/
def cmdRegion (m : Memory) (P : PayloadLen) : List Byte :=
  m.read 2 :: m.slice 3 (P.total - 3)

/-- The default payload window: offset 3, length S - 4 (R164). -/
def defaultWindow (P : PayloadLen) : Nat × Nat :=
  (3, P.val)

/-- The MSP payload window: offset 5, length max(0, S - 6), after the two extended-header bytes (R155). -/
def mspWindow (P : PayloadLen) : Nat × Nat :=
  (3 + Config.extHdr, P.val - Config.extHdr)

/-! ## Channel fields -/

/-- `pl(k)`: payload bit k of a snapshot, bit (k mod 8) of byte 3 + (k div 8) (R52, R80). -/
def payloadBit (m : Memory) (k : Nat) : Nat :=
  ((m.read (3 + k / 8)).toNat >>> (k % 8)) % 2

/-- `field11(b)`: the 11-bit field at payload bit b, least significant bit first (R80). -/
def field11 (m : Memory) (b : Nat) : ChVal :=
  BitVec.ofNat 11 (((List.range 11).map fun j => payloadBit m (b + j) * 2 ^ j).sum)

/-- The payload size a snapshot's length byte gives, `P = snap[1] - 2` (R81); below 2 there is no payload (log entry 8). -/
def snapPayload (m : Memory) : Nat :=
  (m.read 1).toNat - 2

/-- `start = snap[3] & 0x1F` (R81). -/
def subsetStart (m : Memory) : Nat :=
  (m.read 3 &&& 0x1F#8).toNat

/-- `count = if 8·P ≥ 5 then (8·P - 5) div 11 else 0`, truncating (R81, R185). -/
def subsetCount (m : Memory) : Nat :=
  if 5 ≤ 8 * snapPayload m then (8 * snapPayload m - 5) / 11 else 0

/-- FIXED_DECODE: channel i is the field at payload bit 11·i, for every i (R183). -/
def fixedDecode (m : Memory) : Vector ChVal 16 :=
  Vector.ofFn fun i => field11 m (11 * i.val)

/-- SUBSET_DECODE in closed form (R81, R186, R187): channel `start + n` takes field n for n < count, every other channel
keeps its value, and a field for a channel of 16 or more is not written. -/
def subsetDecode (m : Memory) (ch : Vector ChVal 16) : Vector ChVal 16 :=
  Vector.ofFn fun i =>
    if subsetStart m ≤ i.val ∧ i.val < subsetStart m + subsetCount m then
      field11 m (5 + 11 * (i.val - subsetStart m))
    else ch[i]

/-! ## The rolling accumulator

R184 writes SUBSET_DECODE as a rolling accumulator and says that it is "equal, value for value, to the closed form". It is
given here as a second definition, so that the equality can be stated. -/

/-- The inner loop of R184: take in payload bytes until 11 bits are there. Two rounds always suffice. -/
def rollRefill (m : Memory) : Nat → Nat → Nat → Nat → Nat × Nat × Nat
  | 0, acc, bits, k => (acc, bits, k)
  | fuel + 1, acc, bits, k =>
    if bits < 11 then rollRefill m fuel (acc ||| ((m.read (3 + k)).toNat <<< bits)) (bits + 8) (k + 1)
    else (acc, bits, k)

/-- The outer loop of R184 over the fields n, n + 1, ...: extract, write if the channel exists, shift out. -/
def rollFields (m : Memory) (start : Nat) :
    Nat → Nat → Nat → Nat → Nat → Vector ChVal 16 → Vector ChVal 16
  | 0, _, _, _, _, ch => ch
  | left + 1, n, acc, bits, k, ch =>
    let (acc, bits, k) := rollRefill m 2 acc bits k
    rollFields m start left (n + 1) (acc >>> 11) (bits - 11) k
      (if start + n < 16 then ch.setIfInBounds (start + n) (BitVec.ofNat 11 acc) else ch)

/-- SUBSET_DECODE as R184 writes it: three valid bits of the first payload byte, then byte by byte. -/
def subsetDecodeRolling (m : Memory) (ch : Vector ChVal 16) : Vector ChVal 16 :=
  rollFields m (subsetStart m) (subsetCount m) 0 ((m.read 3).toNat >>> 5) 3 1 ch

end Sys2Proof.Machine
end

