-- ==== Sys2Proof/Machine/Flags.lean ====
section
/-! DEFINITION. Conditions and counters: the resync timeout (41_frame_assembler.md R121), the consecutive-error counter
(R127, R129, R130, R131) and the results of the two checksum comparisons (40_checksum.md R102, R104). The block's only flag
is `ready`: set by the RC routes, cleared by POLL (10_state.md R27). -/

namespace Sys2Proof.Machine

/-! ## Timeout -/

/-- `elapsed = (ts - t_start) mod 2^32` (R121). -/
def State.elapsed (s : State) (ts : Stamp) : Stamp :=
  ts - s.tStart

/-- `timeout`: strictly more than 1100 microseconds since the frame's first byte (R121). -/
def State.timedOut (s : State) (ts : Stamp) : Bool :=
  decide (Config.resyncUs < (s.elapsed ts).toNat)

/-- The working cursor `p`: 0 after a timeout, else `pos` (R121). -/
def State.workingPos (s : State) (ts : Stamp) : BufIdx :=
  if s.timedOut ts then 0 else s.pos

/-- `resync`: the timeout abandons a partial frame (R121, R132). -/
def State.resynced (s : State) (ts : Stamp) : Bool :=
  s.timedOut ts && s.pos != 0

/-- At working cursor 0 the timestamp of the byte is the frame start (R122). -/
def State.stampStart (s : State) (ts : Stamp) : State :=
  if s.workingPos ts = 0 then s.setTStart ts else s

/-! ## Consecutive-error counter -/

/-- `count_failure()`: the saturating increment, and at the threshold the fallback request and the return to 0; nothing
without version 3 (R129, R130, R131). -/
def State.countFailure (s : State) : State :=
  if s.params.v3 then
    let e := min (s.errCnt.toNat + 1) Config.errThreshold
    if e = Config.errThreshold then s.emitFallback.setErrCnt 0
    else s.setErrCnt (BitVec.ofNat 7 e)
  else s

/-- A CRC match resets the counter, with version 3 (R127, R131). -/
def State.clearFailures (s : State) : State :=
  if s.params.v3 then s.setErrCnt 0 else s

/-! ## Checksum results -/

/-- FRAME_CRC over the buffer and its comparison with byte S - 1 (R102). -/
def State.evalFrameCrc (s : State) (P : PayloadLen) : State :=
  let c := crc8 Config.polyFrame (frameRegion s.fb P)
  s.latchFrameCrc c (decide (c = s.fb.read (P.total - 1)))

/-- CMD_CRC over the buffer and its comparison with byte S - 2 (R104). -/
def State.evalCmdCrc (s : State) (P : PayloadLen) : State :=
  let c := crc8 s.params.polyCmd (cmdRegion s.fb P)
  s.latchCmdCrc c (decide (c = s.fb.read (P.total - 2)))

end Sys2Proof.Machine
end

