-- ==== Sys2Proof/Machine/Checksum.lean ====
section
/-! DEFINITION. The Checksum Engine's two operations (40_checksum.md). "Both functions are pure. They read only fb' and S
and write no state" (R105): the value and the comparison appear on the model's own wires and nowhere else (log entry 6). -/

namespace Sys2Proof.Machine

/-- FRAME_CRC (R102). -/
def execFrameCrc (P : PayloadLen) (s : State) : Host.Outcome State Fault Refusal :=
  .next (s.evalFrameCrc P)

/-- CMD_CRC (R104). -/
def execCmdCrc (P : PayloadLen) (s : State) : Host.Outcome State Fault Refusal :=
  .next (s.evalCmdCrc P)

end Sys2Proof.Machine
end

