-- ==== Sys2Proof/Decode.lean ====
section
/-! DEFINITION. The decoders of the block and, after them, the encoder.

Two decoders run in the hardware: the control vector selects the port operations of a step (30_encoding.md R77), and the
type byte of a completed CRC-valid frame selects the dispatcher's arm (42_dispatcher.md R151). Both are total: "Every input
the block can receive has a defined effect" (R84). A third reads one word of spec/opcode_table.json. -/

namespace Sys2Proof

/-! ## The control vector -/

/-- `c = rst·4 + byte_valid·2 + poll` (R77). -/
def Inputs.control (x : Inputs) : BitVec 3 :=
  BitVec.ofNat 3 (x.rst.toNat * 4 + x.byteValid.toNat * 2 + x.poll.toNat)

/-- The read ports, selected in every step whatever c is (R77). -/
def readPorts (x : Inputs) : List Instr :=
  [.readCh x.chIdx, .fbRead x.fbRdAddr]

/-- The strobed operations that c selects, by the match and mask of R77's table. With `c = 0b011` both POLL and BYTE_IN are
selected; POLL stands first, since it reads the latch and the snapshot as they were at the start of the step (R60). -/
def strobes (x : Inputs) : List Instr :=
  let c := x.control
  (if c &&& 0b100#3 = 0b100#3 then [.reset x.cfgChDefault] else []) ++
  (if c &&& 0b101#3 = 0b001#3 then [.poll] else []) ++
  (if c &&& 0b110#3 = 0b010#3 then [.byteIn x.byteIn x.tsIn x.cfgRssiSrcCrsf] else []) ++
  (if c &&& 0b111#3 = 0b000#3 then [.nop] else [])

/-- Every operation of one step, in the order the model runs them (log entry 1). -/
def decodePorts (x : Inputs) : List Instr :=
  readPorts x ++ strobes x

/-! ## The type byte -/

/-- The dispatcher's type decode: the arms of R151 in their order, each with its build option (R78). -/
def decodeKind (p : Params) (t : Byte) : FrameKind :=
  if t = p.typeRc then .rcFixed
  else if p.v3 && t = p.typeSubset then .rcSubset
  else if p.telem && t = p.typeMspReq then .mspReq
  else if p.telem && t = p.typeMspWrite then .mspWrite
  else if p.telem && t = p.typePing then .devicePing
  else if p.telem && t = p.typeDisplayport then .displayport
  else if t = p.typeLinkStats then .linkStats
  else if p.v3 && t = p.typeLinkStatsRx then .linkStatsRx
  else if p.v3 && t = p.typeLinkStatsTx then .linkStatsTx
  else if p.v3 && t = p.typeCommand then .command
  else .unknownType

/-- The operation a frame kind stands for, with the operands the completing step gives it. -/
def FrameKind.instr (k : FrameKind) (t : Byte) (P : PayloadLen) (rssi : Bool) : Instr :=
  match k with
  | .rcFixed => .rcFixed P
  | .rcSubset => .rcSubset P
  | .mspReq => .mspReq P
  | .mspWrite => .mspWrite P
  | .devicePing => .devicePing P
  | .displayport => .displayport P
  | .linkStats => .linkStats P rssi
  | .linkStatsRx => .linkStatsRx P
  | .linkStatsTx => .linkStatsTx P
  | .command => .command P
  | .unknownType => .unknownType t

/-- The dispatcher's arm for the type byte `t` of a completed frame. -/
def decodeType (p : Params) (t : Byte) (P : PayloadLen) (rssi : Bool) : Instr :=
  (decodeKind p t).instr t P rssi

/-! ## Words -/

/-- The three formats of spec/opcode_table.json, each with the fields that format carries. -/
inductive OpWord where
  /-- Format control_vector: the input pattern of one step (R77). -/
  | ports (x : Inputs)
  /-- Format frame_type: the type byte of a completed frame, its size, and the sampled `cfg_rssi_src_crsf` (R78). -/
  | frameType (t : Byte) (P : PayloadLen) (rssi : Bool)
  deriving DecidableEq, Repr

/-- The operations a word selects. -/
def decode (p : Params) : OpWord → List Instr
  | .ports x => decodePorts x
  | .frameType t P rssi => [decodeType p t P rssi]

/-- Why a row of bytes is no word of the opcode table. -/
inductive DecodeReject where
  /-- No byte at all. -/
  | empty
  /-- More than one byte: every word of the table is one byte. -/
  | tooLong
  deriving DecidableEq, Repr

/-- The strobed operation of a bare control vector, every operand field zero. Where two are selected (`c = 0b011`), the one
that stands first in the table, BYTE_IN (log entry 10). -/
def decodeControl (c : BitVec 3) : Instr :=
  if c &&& 0b100#3 = 0b100#3 then .reset 0
  else if c &&& 0b110#3 = 0b010#3 then .byteIn 0 0 false
  else if c &&& 0b101#3 = 0b001#3 then .poll
  else .nop

/-- One word of the opcode table as bytes. A byte below 8 is a control vector (R77), any other is a type byte at its REF
value (R83: "over the 8-bit type byte, at the REF value") of a frame with an empty payload (log entry 10). -/
def decodeBytes : List Byte → Except DecodeReject Instr
  | [] => .error .empty
  | [b] => .ok (if b.toNat < 8 then decodeControl (b.setWidth 3) else decodeType Params.ref b 0 false)
  | _ :: _ :: _ => .error .tooLong

/-- The bytes of a word of `nbits` bits, the least significant byte first, as the opcode table numbers its bits. -/
def tableBytes (nbits w : Nat) : List Byte :=
  (List.range ((nbits + 7) / 8)).map fun i => BitVec.ofNat 8 (w >>> (8 * i))

/-- The instruction the decoder reads from a table word of `nbits` bits. -/
def decodeTableWord (nbits w : Nat) : Option Instr :=
  match decodeBytes (tableBytes nbits w) with
  | .ok i => some i
  | .error _ => none

/-! ## The encoder -/

/-- The type byte of a frame kind, from the table of R78; an unknown type has no parameter of its own. -/
def FrameKind.code (p : Params) : FrameKind → Option Byte
  | .rcFixed => some p.typeRc
  | .rcSubset => some p.typeSubset
  | .mspReq => some p.typeMspReq
  | .mspWrite => some p.typeMspWrite
  | .devicePing => some p.typePing
  | .displayport => some p.typeDisplayport
  | .linkStats => some p.typeLinkStats
  | .linkStatsRx => some p.typeLinkStatsRx
  | .linkStatsTx => some p.typeLinkStatsTx
  | .command => some p.typeCommand
  | .unknownType => none

/-- The word of an operation, written from R77 (port operations, every other input at zero) and R78 (frame types). The two
checksum functions have no encoding: the table says "none". -/
def encode (p : Params) : Instr → Option OpWord
  | .reset d => some (.ports { Inputs.zero with rst := true, cfgChDefault := d })
  | .byteIn b ts r => some (.ports { Inputs.zero with byteValid := true, byteIn := b, tsIn := ts, cfgRssiSrcCrsf := r })
  | .poll => some (.ports { Inputs.zero with poll := true })
  | .nop => some (.ports Inputs.zero)
  | .readCh k => some (.ports { Inputs.zero with chIdx := k })
  | .fbRead a => some (.ports { Inputs.zero with fbRdAddr := a })
  | .rcFixed P => some (.frameType p.typeRc P false)
  | .rcSubset P => some (.frameType p.typeSubset P false)
  | .mspReq P => some (.frameType p.typeMspReq P false)
  | .mspWrite P => some (.frameType p.typeMspWrite P false)
  | .devicePing P => some (.frameType p.typePing P false)
  | .displayport P => some (.frameType p.typeDisplayport P false)
  | .linkStats P r => some (.frameType p.typeLinkStats P r)
  | .linkStatsRx P => some (.frameType p.typeLinkStatsRx P false)
  | .linkStatsTx P => some (.frameType p.typeLinkStatsTx P false)
  | .command P => some (.frameType p.typeCommand P false)
  | .unknownType t => some (.frameType t 0 false)
  | .frameCrc _ => none
  | .cmdCrc _ => none

/-! ## Frames on the wire -/

/-- `FRAME(a, t, payload)`: address, length L = P + 2, type, payload, and the frame CRC over type and payload (R70, R85). -/
def frameBytes (a t : Byte) (payload : List Byte) : List Byte :=
  [a, BitVec.ofNat 8 (payload.length + 2), t] ++ payload ++ [Machine.crc8 Config.polyFrame (t :: payload)]

/-- `CMDFRAME(a, t, body)`: a frame whose last payload byte is the command CRC over type and body (R73, R85). -/
def cmdFrameBytes (p : Params) (a t : Byte) (body : List Byte) : List Byte :=
  frameBytes a t (body ++ [Machine.crc8 p.polyCmd (t :: body)])

/-- The 22-byte fixed-format payload of sixteen channel values: payload bit k is bit (k mod 11) of channel (k div 11), and
bit (k mod 8) of payload byte (k div 8) (R52, R75). -/
def packFixed (v : Vector ChVal 16) : List Byte :=
  (List.range 22).map fun j =>
    BitVec.ofNat 8 (((List.range 8).map fun i =>
      ((v.toList.getD ((8 * j + i) / 11) 0).getLsbD ((8 * j + i) % 11)).toNat * 2 ^ i).sum)

end Sys2Proof
end

