-- ==== Sys2Proof/Machine/Routes.lean ====
section
/-! DEFINITION. The Frame Dispatcher (42_dispatcher.md): the eleven arms of R151 and DISPATCH itself. Each arm reads the
frame standing in the frame buffer (the post-write view `fb'`) with payload size P; each ends in the step it starts (R165). -/

namespace Sys2Proof.Machine

/-! ## Shared operations -/

/-- A CRC-valid frame that takes no route (R166, R167). -/
def filterFrame (r : FiltReason) (s : State) : State :=
  s.emitFilter r

/-- An accepted RC-channel frame: snapshot, ready latch, outputs (R152, R163, R164). -/
def acceptRc (r : RouteCode) (P : PayloadLen) (s : State) : State :=
  (s.takeSnapshot.setReady true).emitDispatch r P (defaultWindow P)

/-- The address test of the RC-channel and link-statistics-TX types (R79, R154, R160). -/
def addressedHere (s : State) : Bool :=
  s.fb.read 0 = s.params.addrFc

/-- A frame of a type that the build option `enabled` governs; without it the type is unknown (R84, R162). -/
def gatedBy (enabled : Bool) (s t : State) : State :=
  if enabled then t else filterFrame .unknownType s

/-! ## The arms -/

/-- RC_FIXED (R152, R154): no length check. -/
def execRcFixed (P : PayloadLen) (s : State) : Host.Outcome State Fault Refusal :=
  .next (if addressedHere s then acceptRc .rcFixed P s else filterFrame .addrMismatch s)

/-- RC_SUBSET (R153, R154), version 3 only. -/
def execRcSubset (P : PayloadLen) (s : State) : Host.Outcome State Fault Refusal :=
  .next (gatedBy s.params.v3 s
    (if addressedHere s then acceptRc .rcSubset P s else filterFrame .addrMismatch s))

/-- MSP_REQ (R155), telemetry only: any address; the window skips the extended header. -/
def execMspReq (P : PayloadLen) (s : State) : Host.Outcome State Fault Refusal :=
  .next (gatedBy s.params.telem s (s.emitDispatch .msp P (mspWindow P)))

/-- MSP_WRITE (R155), telemetry only: as MSP_REQ; `disp_type` tells them apart. -/
def execMspWrite (P : PayloadLen) (s : State) : Host.Outcome State Fault Refusal :=
  .next (gatedBy s.params.telem s (s.emitDispatch .msp P (mspWindow P)))

/-- DEVICE_PING (R156), telemetry only: any address. -/
def execDevicePing (P : PayloadLen) (s : State) : Host.Outcome State Fault Refusal :=
  .next (gatedBy s.params.telem s (s.emitDispatch .devicePing P (defaultWindow P)))

/-- DISPLAYPORT (R157), telemetry only: any address, the whole payload. -/
def execDisplayport (P : PayloadLen) (s : State) : Host.Outcome State Fault Refusal :=
  .next (gatedBy s.params.telem s (s.emitDispatch .displayport P (defaultWindow P)))

/-- LINK_STATS (R158): routed if the RSSI source is this protocol and the payload has the expected length, else gated. -/
def execLinkStats (P : PayloadLen) (rssiSrcCrsf : Bool) (s : State) : Host.Outcome State Fault Refusal :=
  .next (if rssiSrcCrsf && P = s.params.linkStatsLen then s.emitDispatch .linkStats P (defaultWindow P)
    else filterFrame .gated s)

/-- LINK_STATS_RX (R159), version 3 only: any address, any length. -/
def execLinkStatsRx (P : PayloadLen) (s : State) : Host.Outcome State Fault Refusal :=
  .next (gatedBy s.params.v3 s (s.emitDispatch .linkStatsRx P (defaultWindow P)))

/-- LINK_STATS_TX (R160), version 3 only: addressed to the flight controller, any length. -/
def execLinkStatsTx (P : PayloadLen) (s : State) : Host.Outcome State Fault Refusal :=
  .next (gatedBy s.params.v3 s
    (if addressedHere s then s.emitDispatch .linkStatsTx P (defaultWindow P) else filterFrame .addrMismatch s))

/-- The command arm with CMD_CRC evaluated (R151, R161): the inner CRC first, then the checked address byte. -/
def commandChecked (P : PayloadLen) (s : State) : State :=
  if !s.crc.cmdOk then filterFrame .cmdCrcMismatch s
  else if s.fb.read s.params.cmdAddrIndex.toNat ≠ s.params.cmdAddrValue then filterFrame .cmdAddrMismatch s
  else s.emitDispatch .command P (defaultWindow P)

/-- COMMAND (R161), version 3 only. -/
def execCommand (P : PayloadLen) (s : State) : Host.Outcome State Fault Refusal :=
  .next (gatedBy s.params.v3 s (commandChecked P (s.evalCmdCrc P)))

/-- UNKNOWN_TYPE (R162): no route; the type byte itself changes nothing. -/
def execUnknownType (_t : Byte) (s : State) : Host.Outcome State Fault Refusal :=
  .next (filterFrame .unknownType s)

/-! ## DISPATCH -/

/-- `DISPATCH(fb', S)`: the arm that the type byte `fb'[2]` selects (R150, R151). -/
def dispatch (P : PayloadLen) (rssiSrcCrsf : Bool) (s : State) : Host.Outcome State Fault Refusal :=
  match decodeKind s.params (s.fb.read 2) with
  | .rcFixed => execRcFixed P s
  | .rcSubset => execRcSubset P s
  | .mspReq => execMspReq P s
  | .mspWrite => execMspWrite P s
  | .devicePing => execDevicePing P s
  | .displayport => execDisplayport P s
  | .linkStats => execLinkStats P rssiSrcCrsf s
  | .linkStatsRx => execLinkStatsRx P s
  | .linkStatsTx => execLinkStatsTx P s
  | .command => execCommand P s
  | .unknownType => execUnknownType (s.fb.read 2) s

end Sys2Proof.Machine
end

