-- ==== Sys2Proof/Machine/Assembler.lean ====
section
/-! DEFINITION. The Frame Assembler's one operation, BYTE_IN (41_frame_assembler.md R120), in the order of its parts. -/

namespace Sys2Proof.Machine

/-- A framing error (R124): the byte is dropped, the cursor returns to 0, the failure is counted. -/
def framingError (s : State) : State :=
  ((s.setPos 0).emitRx .framingError).countFailure

/-- A CRC error (R128): nothing is dispatched, the failure is counted. -/
def crcError (s : State) : State :=
  (s.emitRx .crcError).countFailure

/-- A CRC match (R127): the event, and the counter reset before dispatch. -/
def frameValid (s : State) : State :=
  (s.emitRx .frameValid).clearFailures

/-- Store and advance (R125): the event says whether a partial frame was abandoned (R132). -/
def advance (p : BufIdx) (resync : Bool) (s : State) : State :=
  (s.setPos (p + 1)).emitRx (if resync then .storedResync else .stored)

/-- Completion (R126): the cursor returns to 0, FRAME_CRC is evaluated over the post-write buffer, and the frame is
dispatched or counted as a failure. -/
def completeFrame (P : PayloadLen) (rssiSrcCrsf : Bool) (s : State) : Host.Outcome State Fault Refusal :=
  let s' := (s.setPos 0).evalFrameCrc P
  if s'.crc.frameOk then dispatch P rssiSrcCrsf (frameValid s') else .next (crcError s')

/-- BYTE_IN (R120): resync, frame start, size, bounds check, store, then advance or completion. -/
def execByteIn (b : Byte) (ts : Stamp) (rssiSrcCrsf : Bool) (s : State) : Host.Outcome State Fault Refusal :=
  let p := s.workingPos ts
  match payloadLenOf (frameSizeAt s.fb p) with
  | none => .next (framingError (s.stampStart ts))
  | some P =>
    let stored := (s.stampStart ts).storeByte p b
    if p.toNat + 1 < P.total then .next (advance p (s.resynced ts) stored)
    else completeFrame P rssiSrcCrsf stored

end Sys2Proof.Machine
end

