-- ==== Sys2Proof/Machine/Ports.lean ====
section
/-! DEFINITION. The remaining port operations: RESET (70_reset_and_hazards.md R230), NOP (41_frame_assembler.md R135) and
FB_READ (20_memory.md R57). -/

namespace Sys2Proof.Machine

/-- RESET (R230, R231, R38): the reset values, and every event output idle. -/
def execReset (d : ChVal) (s : State) : Host.Outcome State Fault Refusal :=
  .next (s.clearAll d).emitResetIdle

/-- NOP (R135): the assembler does nothing, no timeout is evaluated, `rx_event` stays idle. -/
def execNop (s : State) : Host.Outcome State Fault Refusal :=
  .next s

/-- FB_READ (R57): one byte of the frame buffer, no side effect. -/
def execFbRead (addr : BufIdx) (s : State) : Host.Outcome State Fault Refusal :=
  .next (s.emitFbData (s.fb.read addr.toNat))

end Sys2Proof.Machine
end

