-- ==== Sys2Proof/Machine/Unpacker.lean ====
section
/-! DEFINITION. The Channel Unpacker's operations POLL and READ_CH (43_channel_unpacker.md). -/

namespace Sys2Proof.Machine

/-- The channel registers that the snapshot's own type byte decodes to (R180, R182). A snapshot of neither RC-channel type
writes no channel; no run reaches one (10_state.md R30). -/
def decodeSnapshot (s : State) : Vector ChVal 16 :=
  let t := s.snap.read 2
  if t = s.params.typeRc then fixedDecode s.snap
  else if s.params.v3 && t = s.params.typeSubset then subsetDecode s.snap s.ch
  else s.ch

/-- POLL (R180): PENDING when nothing waits; else COMPLETE, the latch cleared and the snapshot decoded. -/
def execPoll (s : State) : Host.Outcome State Fault Refusal :=
  .next (if s.ready then ((s.emitPoll .complete).setReady false).setCh (decodeSnapshot s)
    else s.emitPoll .pending)

/-- READ_CH (R188): the raw channel value, no side effect. -/
def execReadCh (idx : ChIdx) (s : State) : Host.Outcome State Fault Refusal :=
  .next (s.emitChData (s.ch[idx.toNat]'idx.isLt))

end Sys2Proof.Machine
end

