-- ==== Sys2Proof/Machine/Dispatch.lean ====
section
/-! DEFINITION. One arm per operation; each calls that operation's meaning. -/

namespace Sys2Proof.Machine

def exec (i : Instr) (s : State) : Host.Outcome State Fault Refusal :=
  match i with
  | .reset d => Sys2Proof.Machine.execReset d s
  | .byteIn b ts r => Sys2Proof.Machine.execByteIn b ts r s
  | .poll => Sys2Proof.Machine.execPoll s
  | .nop => Sys2Proof.Machine.execNop s
  | .readCh k => Sys2Proof.Machine.execReadCh k s
  | .fbRead a => Sys2Proof.Machine.execFbRead a s
  | .rcFixed P => Sys2Proof.Machine.execRcFixed P s
  | .rcSubset P => Sys2Proof.Machine.execRcSubset P s
  | .mspReq P => Sys2Proof.Machine.execMspReq P s
  | .mspWrite P => Sys2Proof.Machine.execMspWrite P s
  | .devicePing P => Sys2Proof.Machine.execDevicePing P s
  | .displayport P => Sys2Proof.Machine.execDisplayport P s
  | .linkStats P r => Sys2Proof.Machine.execLinkStats P r s
  | .linkStatsRx P => Sys2Proof.Machine.execLinkStatsRx P s
  | .linkStatsTx P => Sys2Proof.Machine.execLinkStatsTx P s
  | .command P => Sys2Proof.Machine.execCommand P s
  | .unknownType t => Sys2Proof.Machine.execUnknownType t s
  | .frameCrc P => Sys2Proof.Machine.execFrameCrc P s
  | .cmdCrc P => Sys2Proof.Machine.execCmdCrc P s

end Sys2Proof.Machine
end

