-- ==== Sys2Proof/Machine/Fetch.lean ====
section
/-! DEFINITION. Where the next step finds what it runs. The block fetches no instruction (10_state.md R29): a step runs what
its input pattern selects, and the step that completes a CRC-valid frame runs the arm of the frame's type byte. -/

namespace Sys2Proof.Machine

/-- The operations the coming step performs, in their order (R77). -/
def State.selectedOps (s : State) : List Instr :=
  decodePorts s.currentInput

/-- Drive the input pattern `x` in the coming step; later patterns stay as they are. -/
def State.placeInputs (x : Inputs) (s : State) : State :=
  { s with inputs := x :: s.inputs.tail }

/-- Drive the control vector `c` in the coming step, every operand field zero (R77). -/
def State.placeControl (c : BitVec 3) (s : State) : State :=
  s.placeInputs { Inputs.zero with rst := c.getLsbD 2, byteValid := c.getLsbD 1, poll := c.getLsbD 0 }

/-- A frame of type `t` with an empty payload, addressed to the flight controller, received but for its frame CRC, and that
CRC driven in the coming step with no time elapsed: BYTE_IN completes the frame and dispatches on `t` (R126, R150). -/
def State.placeTypeByte (t : Byte) (s : State) : State :=
  let sent := frameBytes s.params.addrFc t []
  let s := ((s.storeByte 0 (sent.getD 0 0)).storeByte 1 (sent.getD 1 0)).storeByte 2 (sent.getD 2 0)
  (s.setPos 3).placeInputs { Inputs.zero with byteValid := true, byteIn := sent.getD 3 0, tsIn := s.tStart }

/-- The word of spec/opcode_table.json in `bytes`, placed where the coming step runs it (log entries 10, 11). -/
def State.placeWord (bytes : List Byte) (s : State) : State :=
  match bytes with
  | [b] => if b.toNat < 8 then s.placeControl (b.setWidth 3) else s.placeTypeByte b
  | _ => s

end Sys2Proof.Machine
end

