-- ==== Sys2Proof/Machine/Step.lean ====
section
/-! DEFINITION. One step: one cycle of the block's single clock (00_scope.md R15). -/

namespace Sys2Proof.Machine

/-- Sample the inputs once, return the outputs to idle, and run the selected operations: the read ports, then POLL, then
BYTE_IN (or RESET, or NOP). Run one after the other in this order they have the effect R13 and R60 give them in one step,
since no operation writes what a later one reads of the start-of-step state (log entry 1). -/
def step (s : State) : Host.Outcome State Fault Refusal :=
  runOps exec s.selectedOps s.beginStep

/-- `s` with the word of the opcode table placed where `step` runs it next. -/
def State.withFetchWord (s : State) (nbits w : Nat) : State :=
  s.placeWord (tableBytes nbits w)

end Sys2Proof.Machine
end

