-- ==== Sys2Proof/WellFormed.lean ====
section
/-! DEFINITION. When an operation exists in an instance of the block: the build options of 00_scope.md R3 and R8 take some
frame types away, and an unknown type byte is one that selects no arm (42_dispatcher.md R162). -/

namespace Sys2Proof

/-- An operation of an instance with parameters `p`. The version-3 types need P_V3, the telemetry types P_TELEM (R78), and
an unknown type byte selects no arm (R151, R162). The ranges of every other operand are in its type. -/
def Instr.wellFormed (p : Params) : Instr → Bool
  | .reset _ => true
  | .byteIn _ _ _ => true
  | .poll => true
  | .nop => true
  | .readCh _ => true
  | .fbRead _ => true
  | .rcFixed _ => true
  | .rcSubset _ => p.v3
  | .mspReq _ => p.telem
  | .mspWrite _ => p.telem
  | .devicePing _ => p.telem
  | .displayport _ => p.telem
  | .linkStats _ _ => true
  | .linkStatsRx _ => p.v3
  | .linkStatsTx _ => p.v3
  | .command _ => p.v3
  | .unknownType t => decodeKind p t = .unknownType
  | .frameCrc _ => true
  | .cmdCrc _ => true

end Sys2Proof
end

