-- ==== Sys2Proof/Safety.lean ====
section
/-! DEFINITION. The invariants that hold between steps, from reset on (10_state.md R22, R30), and the canonical form of the
two buffers. Each is an abbrev of a decidable proposition. -/

namespace Sys2Proof.Machine

/-- The cursor invariant of R22 as its words have it: `pos ∈ {0, 1, 2}`, or `3 ≤ pos ≤ S - 1` with `S = fb[1] + 2` and
`4 ≤ S ≤ 64`. BYTE_IN does not keep it: the size is first checked on the byte after the cursor has become 3 (R123, R124;
vectors V-S9 and V-B6), so a bad length byte stands under cursor 3 between two steps (log entry 9). -/
abbrev CursorAsWorded (s : State) : Prop :=
  s.pos.toNat < 3 ∨ (s.pos.toNat + 1 ≤ (s.fb.read 1).toNat + 2 ∧ (s.fb.read 1).toNat + 2 ≤ 64)

/-- The cursor invariant that BYTE_IN keeps: R22 with cursor 3 among the cursors at which the size is not yet checked. -/
abbrev CursorInv (s : State) : Prop :=
  s.pos.toNat ≤ 3 ∨ (s.pos.toNat + 1 ≤ (s.fb.read 1).toNat + 2 ∧ (s.fb.read 1).toNat + 2 ≤ 64)

/-- The counter invariants (R30, items 2 and 3): at most 99, and 0 without version 3. -/
abbrev CounterInv (s : State) : Prop :=
  s.errCnt.toNat ≤ 99 ∧ (s.params.v3 = false → s.errCnt = 0)

/-- The snapshot invariants (R30, items 4 and 5): a waiting snapshot is an RC-channel frame for this device, of legal size. -/
abbrev SnapshotInv (s : State) : Prop :=
  s.ready = true →
    s.snap.read 0 = s.params.addrFc ∧
    (s.snap.read 2 = s.params.typeRc ∨ (s.params.v3 = true ∧ s.snap.read 2 = s.params.typeSubset)) ∧
    2 ≤ (s.snap.read 1).toNat ∧ (s.snap.read 1).toNat ≤ 62

/-- Both buffers are in canonical form. -/
abbrev BuffersInv (s : State) : Prop :=
  s.fb.wf = true ∧ s.snap.wf = true

/-- The invariant of the block between steps. -/
abbrev BlockInv (s : State) : Prop :=
  CursorInv s ∧ CounterInv s ∧ SnapshotInv s ∧ BuffersInv s

/-! ## Terms the claims use, written from the rules -/

/-- The working cursor of a byte with timestamp `ts` (R121): 0 if more than 1100 microseconds have passed since `t_start`
modulo 2^32, else `pos`. -/
def cursorFor (s : State) (ts : Stamp) : BufIdx :=
  if 1100 < (ts - s.tStart).toNat then 0 else s.pos

/-- The frame size the assembler uses at cursor `p` (R123): 5 below 3, else the length byte plus 2. -/
def sizeFor (s : State) (p : BufIdx) : Nat :=
  if p.toNat < 3 then 5 else (s.fb.read 1).toNat + 2

/-- `t` has counted one failure more than `s` (R129, R130, R131): with version 3 the counter is one higher, or at 100 is 0
again with `fallback_req` asserted; without version 3 neither changes. -/
def CountedFailure (s t : State) : Prop :=
  if s.params.v3 then
    if 100 ≤ s.errCnt.toNat + 1 then t.errCnt = 0 ∧ t.out.fallbackReq = true
    else t.errCnt.toNat = s.errCnt.toNat + 1 ∧ t.out.fallbackReq = s.out.fallbackReq
  else t.errCnt = s.errCnt ∧ t.out.fallbackReq = s.out.fallbackReq

/-- The outputs `o` with a routed frame reported (R163): route, type byte, total size, payload window, and no filter reason. -/
def routedOut (o : Outputs) (r : RouteCode) (type : Byte) (size off len : Nat) : Outputs :=
  { rxEvent := o.rxEvent
    dispValid := true
    dispRoute := r
    dispType := type
    dispSize := BitVec.ofNat 7 size
    dispPlOff := BitVec.ofNat 6 off
    dispPlLen := BitVec.ofNat 6 len
    filtReason := .none
    fallbackReq := o.fallbackReq
    pollDone := o.pollDone
    pollStatus := o.pollStatus
    chData := o.chData
    fbRdData := o.fbRdData
    numChannels := o.numChannels
    refreshUs := o.refreshUs }

/-- The outputs `o` with a filtered frame reported (R163, R167): the reason, and all six dispatch fields 0. -/
def filteredOut (o : Outputs) (reason : FiltReason) : Outputs :=
  { rxEvent := o.rxEvent
    dispValid := false
    dispRoute := .none
    dispType := 0
    dispSize := 0
    dispPlOff := 0
    dispPlLen := 0
    filtReason := reason
    fallbackReq := o.fallbackReq
    pollDone := o.pollDone
    pollStatus := o.pollStatus
    chData := o.chData
    fbRdData := o.fbRdData
    numChannels := o.numChannels
    refreshUs := o.refreshUs }

/-- The step that led to `t` took an RC-channel frame (routes 1 and 2, R163). -/
abbrev TookRcFrame (t : State) : Prop :=
  t.out.dispRoute = .rcFixed ∨ t.out.dispRoute = .rcSubset

end Sys2Proof.Machine
end

