-- ==== Sys2Proof/Certificates/Slice0/Obligations.lean ====
section
/-! DEFINITION. The statements for the provers. Every one quantifies over all states, and so over all parameter sets of
00_scope.md R8; where the parameters' own constraints are needed, `Params.Valid` is a hypothesis. -/

open Sys2Proof Sys2Proof.Machine

/-! ## RESET, NOP and the read ports -/

/-- RESET leaves the reset values in every state element (70_reset_and_hazards.md R230, 10_state.md R37), drives the event
outputs idle (R38), touches nothing else, and has the same result when asserted again (R230's corner case). -/
def Obligations.ResetLeavesResetValues : Prop :=
  ∀ (d : ChVal) (s : State), ∃ t, exec (.reset d) s = .next t ∧
    (∀ a, t.fb.read a = 0) ∧ (∀ a, t.snap.read a = 0) ∧ t.pos = 0 ∧ t.tStart = 0 ∧ t.errCnt = 0 ∧ t.ready = false ∧
    (∀ i (h : i < 16), t.ch[i] = d) ∧
    t.out = { Outputs.idle with chData := s.out.chData, fbRdData := s.out.fbRdData } ∧
    t.params = s.params ∧ t.inputs = s.inputs ∧ t.hostClock = s.hostClock ∧ t.crc = s.crc ∧
    exec (.reset d) t = .next t

/-- A step with `rst = 1` is the same step whatever byte, timestamp and poll are presented: the byte is lost, the poll is not
served, and every event output is idle (R230, R231, R37, R38); the read ports show the start-of-step state. That the step
consumes one pattern of an input queue is the model's choice (log entry 2). -/
def Obligations.ResetStepDominates : Prop :=
  ∀ s : State, s.currentInput.rst = true → ∃ t, step s = .next t ∧
    (∀ a, t.fb.read a = 0) ∧ (∀ a, t.snap.read a = 0) ∧ t.pos = 0 ∧ t.tStart = 0 ∧ t.errCnt = 0 ∧ t.ready = false ∧
    (∀ i (h : i < 16), t.ch[i] = s.currentInput.cfgChDefault) ∧
    t.out = { Outputs.idle with
      chData := s.ch[s.currentInput.chIdx.toNat]'s.currentInput.chIdx.isLt
      fbRdData := s.fb.read s.currentInput.fbRdAddr.toNat } ∧
    t.params = s.params ∧ t.inputs = s.inputs.tail

/-- NOP changes nothing (30_encoding.md R77, R85), and a step without any strobe only drives the read ports and consumes its
input pattern. -/
def Obligations.NopChangesNothing : Prop :=
  (∀ s : State, exec .nop s = .next s) ∧
  ∀ s : State, s.currentInput.rst = false → s.currentInput.byteValid = false → s.currentInput.poll = false →
    ∃ t, step s = .next t ∧ t.fb = s.fb ∧ t.pos = s.pos ∧ t.tStart = s.tStart ∧ t.errCnt = s.errCnt ∧ t.snap = s.snap ∧
      t.ready = s.ready ∧ t.ch = s.ch ∧ t.params = s.params ∧ t.inputs = s.inputs.tail ∧
      t.out = { Outputs.idle with
        chData := s.ch[s.currentInput.chIdx.toNat]'s.currentInput.chIdx.isLt
        fbRdData := s.fb.read s.currentInput.fbRdAddr.toNat }

/-- A step without BYTE_IN leaves the assembler alone, polled or not: no timeout is evaluated (41_frame_assembler.md R135),
and its event is IDLE (R132). -/
def Obligations.NoByteLeavesAssembler : Prop :=
  ∀ s t : State, step s = .next t →
    (s.currentInput.rst = false → s.currentInput.byteValid = false →
      t.pos = s.pos ∧ t.tStart = s.tStart ∧ t.errCnt = s.errCnt ∧ t.fb = s.fb) ∧
    (s.currentInput.rst = true ∨ s.currentInput.byteValid = false ↔ t.out.rxEvent = .idle)

/-- READ_CH answers the raw channel register and changes nothing else; in every step, also one that polls or resets,
`ch_data` shows the register at the start of the step (43_channel_unpacker.md R188). -/
def Obligations.ReadChShowsStartOfStep : Prop :=
  (∀ (k : ChIdx) (s : State),
    exec (.readCh k) s = .next { s with out := { s.out with chData := s.ch[k.toNat]'k.isLt } }) ∧
  ∀ s t : State, step s = .next t → t.out.chData = s.ch[s.currentInput.chIdx.toNat]'s.currentInput.chIdx.isLt

/-- FB_READ answers one byte of the frame buffer and changes nothing else; in every step `fb_rd_data` shows the buffer at the
start of the step (20_memory.md R57). -/
def Obligations.FbReadShowsStartOfStep : Prop :=
  (∀ (a : BufIdx) (s : State),
    exec (.fbRead a) s = .next { s with out := { s.out with fbRdData := s.fb.read a.toNat } }) ∧
  ∀ s t : State, step s = .next t → t.out.fbRdData = s.fb.read s.currentInput.fbRdAddr.toNat

/-- The constant outputs of the channel read contract, in every step (43_channel_unpacker.md R189). -/
def Obligations.ContractConstantsNeverChange : Prop :=
  ∀ s t : State, step s = .next t → t.out.numChannels.toNat = 16 ∧ t.out.refreshUs.toNat = 6667

/-! ## The step -/

/-- A step runs what its input pattern selects (30_encoding.md R77): the read ports, then RESET alone, or POLL and BYTE_IN as
strobed, or NOP. Around exec it consumes the pattern and returns the outputs to idle (00_scope.md R14). The pattern is the
head of the queue, or past the queue a free value (log entry 2). -/
def Obligations.StepRunsSelectedOps : Prop :=
  (∀ (s : State) (x : Inputs) (xs : List Inputs), s.inputs = x :: xs →
    s.currentInput = x ∧ s.beginStep = { s with inputs := xs, out := Outputs.idle, crc := CrcWires.idle }) ∧
  (∀ s : State, s.inputs = [] →
    s.currentInput = Config.hostInput s.hostClock ∧
    s.beginStep = { s with hostClock := s.hostClock + 1, out := Outputs.idle, crc := CrcWires.idle }) ∧
  ∀ (s : State) (x : Inputs), s.currentInput = x →
    step s =
      andThen (exec (.readCh x.chIdx) s.beginStep) fun s1 =>
      andThen (exec (.fbRead x.fbRdAddr) s1) fun s2 =>
        if x.rst then exec (.reset x.cfgChDefault) s2
        else if x.byteValid then
          if x.poll then andThen (exec .poll s2) (exec (.byteIn x.byteIn x.tsIn x.cfgRssiSrcCrsf))
          else exec (.byteIn x.byteIn x.tsIn x.cfgRssiSrcCrsf) s2
        else if x.poll then exec .poll s2
        else exec .nop s2

/-- No operation and no step ends in a fault or a refusal: "A model has no fault outcome for this block" (60_exceptions.md
R210). -/
def Obligations.EveryStepHasNextState : Prop :=
  (∀ (i : Instr) (s : State), ∃ t, exec i s = .next t) ∧ ∀ s : State, ∃ t, step s = .next t

/-- The same-step rule (20_memory.md R60): POLL reads the latch and the snapshot of the start of the step and decodes that
snapshot; at the end `ready_next = set ∨ (ready ∧ ¬poll)`, and the snapshot is the new buffer if the dispatcher wrote it,
else the old one. `p` is what POLL alone would make of the start-of-step state. -/
def Obligations.LatchCombinesSetAndPoll : Prop :=
  ∀ s p t : State, s.currentInput.rst = false → exec .poll s = .next p → step s = .next t →
    (t.ready = true ↔ TookRcFrame t ∨ (s.ready = true ∧ s.currentInput.poll = false)) ∧
    t.snap = (if TookRcFrame t then t.fb else s.snap) ∧
    t.ch = (if s.currentInput.poll then p.ch else s.ch) ∧
    t.out.pollDone = s.currentInput.poll ∧
    t.out.pollStatus = (if s.currentInput.poll && s.ready then .complete else .pending)

/-- BYTE_IN and POLL in one step do not disturb each other (R13, R55, R60): the poll strobe changes nothing the byte does,
and the byte changes nothing the poll does. -/
def Obligations.ByteAndPollIndependent : Prop :=
  ∀ (s t u : State) (x y : Inputs) (xs : List Inputs), x.rst = false → y.rst = false →
    step { s with inputs := x :: xs } = .next t → step { s with inputs := y :: xs } = .next u →
    (x.byteValid = y.byteValid → x.byteIn = y.byteIn → x.tsIn = y.tsIn → x.cfgRssiSrcCrsf = y.cfgRssiSrcCrsf →
      t.fb = u.fb ∧ t.pos = u.pos ∧ t.tStart = u.tStart ∧ t.errCnt = u.errCnt ∧ t.snap = u.snap ∧
      t.out.rxEvent = u.out.rxEvent ∧ t.out.dispValid = u.out.dispValid ∧ t.out.dispRoute = u.out.dispRoute ∧
      t.out.dispType = u.out.dispType ∧ t.out.dispSize = u.out.dispSize ∧ t.out.dispPlOff = u.out.dispPlOff ∧
      t.out.dispPlLen = u.out.dispPlLen ∧ t.out.filtReason = u.out.filtReason ∧
      t.out.fallbackReq = u.out.fallbackReq) ∧
    (x.poll = y.poll →
      t.ch = u.ch ∧ t.out.pollDone = u.out.pollDone ∧ t.out.pollStatus = u.out.pollStatus)

/-- The configuration-change hazard (70_reset_and_hazards.md R237): `cfg_ch_default` has no effect outside a reset step, and
`cfg_rssi_src_crsf` none except in a step that completes a valid frame whose type is link statistics. -/
def Obligations.ConfigInputsSampledWhereStated : Prop :=
  ∀ (s t : State) (x : Inputs) (xs : List Inputs) (d : ChVal) (r : Bool),
    step { s with inputs := x :: xs } = .next t →
    (x.rst = false → step { s with inputs := { x with cfgChDefault := d } :: xs } = .next t) ∧
    (t.out.rxEvent ≠ .frameValid ∨ t.fb.read 2 ≠ s.params.typeLinkStats →
      step { s with inputs := { x with cfgRssiSrcCrsf := r } :: xs } = .next t)

/-- The codes on the output signals (41_frame_assembler.md R132, 42_dispatcher.md R163, R167, 43_channel_unpacker.md R181). -/
def Obligations.OutputCodesFollowTables : Prop :=
  [RxEvent.idle, .stored, .storedResync, .frameValid, .crcError, .framingError].map RxEvent.code =
    [0, 1, 2, 3, 4, 5] ∧
  [RouteCode.none, .rcFixed, .rcSubset, .msp, .devicePing, .displayport, .linkStats, .linkStatsRx, .linkStatsTx,
    .command].map RouteCode.code = [0, 1, 2, 3, 4, 5, 6, 7, 8, 9] ∧
  [FiltReason.none, .unknownType, .addrMismatch, .gated, .cmdCrcMismatch, .cmdAddrMismatch].map FiltReason.code =
    [0, 1, 2, 3, 4, 5] ∧
  [PollStatus.pending, .complete].map PollStatus.code = [0, 1]

/-- Outputs are one-step (70_reset_and_hazards.md R239): nothing holds them, and no step reads what an earlier step drove. -/
def Obligations.OutputsAreNotState : Prop :=
  ∀ (s : State) (o : Outputs) (c : CrcWires), step { s with out := o, crc := c } = step s

/-! ## Invariants -/

/-- The state invariants (10_state.md R30, the spec's own inference, its cursor item with cursor 3 left open as R123 and R124
leave it, log entry 9) hold after every reset step and are kept by every step; with them the canonical form of both buffers. -/
def Obligations.StepKeepsInvariants : Prop :=
  (∀ s t : State, s.currentInput.rst = true → step s = .next t → BlockInv t) ∧
  ∀ s t : State, BlockInv s → step s = .next t → BlockInv t

/-- The cursor invariant in the words of R22, the spec's own inference, expected to FAIL: a length byte outside 2..62 stands
under cursor 3 for one step before the framing error of R124 (log entry 9). -/
def Obligations.CursorInvariantAsWorded : Prop :=
  ∀ s t : State, CursorAsWorded s → step s = .next t → CursorAsWorded t

/-- The state right after reset meets the invariants, and the reference parameters their constraints (R8). -/
def Obligations.ResetStateMeetsInvariants : Prop :=
  BlockInv State.reset ∧ State.reset.params.Valid

/-- Every step keeps both buffers in canonical form, whatever else holds, so that no byte ever stands at an index of 64 or
more (10_state.md R21). -/
def Obligations.BuffersStayCanonical : Prop :=
  ∀ s t : State, BuffersInv s → step s = .next t →
    BuffersInv t ∧ ∀ a, 64 ≤ a → t.fb.read a = 0 ∧ t.snap.read a = 0

/-- The parameters are fixed for the life of an instance (00_scope.md R8): no operation and no step changes them. -/
def Obligations.ParametersAreFixed : Prop :=
  (∀ (i : Instr) (s t : State), exec i s = .next t → t.params = s.params) ∧
  ∀ s t : State, step s = .next t → t.params = s.params

/-! ## Checksum engine -/

/-- CRC8 is linear over GF(2) in the bytes for a fixed length (40_checksum.md R100). -/
def Obligations.CrcIsLinear : Prop :=
  ∀ (poly : Byte) (xs ys : List Byte), xs.length = ys.length →
    crc8 poly (List.zipWith (· ^^^ ·) xs ys) = crc8 poly xs ^^^ crc8 poly ys

/-- The corner cases of CRC8 (R100): the empty list and any list of zeros give 0x00, and a lone 0x01 gives the polynomial;
leading zeros change nothing. -/
def Obligations.CrcCornerCases : Prop :=
  ∀ poly : Byte, crc8 poly [] = 0 ∧ crc8 poly [1] = poly ∧
    ∀ (n : Nat) (xs : List Byte), crc8 poly (List.replicate n 0 ++ xs) = crc8 poly xs

/-- With the frame polynomial, a change of exactly one covered byte always changes the CRC, so a frame with one corrupted
type or payload byte never passes (from R100, R101, R102). -/
def Obligations.CrcDetectsOneByte : Prop :=
  ∀ (xs ys : List Byte) (b c : Byte), b ≠ c →
    crc8 Config.polyFrame (xs ++ b :: ys) ≠ crc8 Config.polyFrame (xs ++ c :: ys)

/-- FRAME_CRC (R102): CRC8 with POLY_FRAME over the type byte and every payload byte, compared with byte S - 1; nothing but
the checksum result changes (R105). `bytes` is the covered region, fb[2] to fb[S-2]. -/
def Obligations.FrameCrcCoversTypeAndPayload : Prop :=
  ∀ (P : PayloadLen) (s : State) (bytes : List Byte), bytes.length = P.val + 1 →
    (∀ j (h : j < bytes.length), bytes[j] = s.fb.read (2 + j)) →
    exec (.frameCrc P) s = .next { s with crc := { s.crc with
      frameCrc := crc8 0xD5#8 bytes
      frameOk := decide (crc8 0xD5#8 bytes = s.fb.read (P.val + 3)) } }

/-- CMD_CRC (R104): CRC8 with P_POLY_CMD over the type byte and the payload without its last byte, compared with byte S - 2,
which is the type byte itself when S = 4; nothing but the checksum result changes (R105). -/
def Obligations.CmdCrcCoversTypeAndBody : Prop :=
  ∀ (P : PayloadLen) (s : State) (body : List Byte), body.length = P.val - 1 →
    (∀ j (h : j < body.length), body[j] = s.fb.read (3 + j)) →
    exec (.cmdCrc P) s = .next { s with crc := { s.crc with
      cmdCrc := crc8 s.params.polyCmd (s.fb.read 2 :: body)
      cmdOk := decide (crc8 s.params.polyCmd (s.fb.read 2 :: body) = s.fb.read (P.val + 2)) } }

/-- The address and length bytes are never covered by FRAME_CRC (R102), nor by CMD_CRC (R104): another byte at index 0 or 1
leaves both results as they are. -/
def Obligations.HeaderIsNotCovered : Prop :=
  ∀ (P : PayloadLen) (s t u : State) (a : BufIdx) (v : Byte), a.toNat < 2 →
    (exec (.frameCrc P) s = .next t → exec (.frameCrc P) { s with fb := s.fb.write a v } = .next u → u.crc = t.crc) ∧
    (exec (.cmdCrc P) s = .next t → exec (.cmdCrc P) { s with fb := s.fb.write a v } = .next u → u.crc = t.crc)

/-! ## BYTE_IN -/

/-- A byte that does not complete a frame (41_frame_assembler.md R125, R122, R132): stored at the working cursor, every other
byte of the buffer as before, the cursor one further, `t_start` taken at cursor 0, and no other state changed. -/
def Obligations.ByteStoredAndCursorAdvanced : Prop :=
  ∀ (b : Byte) (ts : Stamp) (r : Bool) (s : State) (p : BufIdx), p = cursorFor s ts →
    4 ≤ sizeFor s p → sizeFor s p ≤ 64 → p.toNat + 1 < sizeFor s p →
    ∃ t, exec (.byteIn b ts r) s = .next t ∧
      (∀ a, t.fb.read a = if a = p.toNat then b else s.fb.read a) ∧
      t.pos.toNat = p.toNat + 1 ∧
      t.tStart = (if p = 0 then ts else s.tStart) ∧
      t.out = { s.out with
        rxEvent := if 1100 < (ts - s.tStart).toNat ∧ s.pos ≠ 0 then .storedResync else .stored } ∧
      t.errCnt = s.errCnt ∧ t.snap = s.snap ∧ t.ready = s.ready ∧ t.ch = s.ch ∧ t.params = s.params ∧
      t.inputs = s.inputs ∧ t.hostClock = s.hostClock ∧ t.crc = s.crc

/-- The frame-start timestamp (R122): with working cursor 0 every BYTE_IN takes `t_start` from its byte, otherwise `t_start`
is unchanged, however the byte ends. -/
def Obligations.TimestampOnlyAtFrameStart : Prop :=
  ∀ (b : Byte) (ts : Stamp) (r : Bool) (s : State), ∃ t, exec (.byteIn b ts r) s = .next t ∧
    t.tStart = (if cursorFor s ts = 0 then ts else s.tStart)

/-- Timeout resynchronisation (R121): a byte more than 1100 microseconds (modulo 2^32) after `t_start` is stored as the first
byte of a new frame whatever was in progress, the abandoned bytes staying in the buffer; a byte at 1100 or less never gives
STORED_RESYNC. -/
def Obligations.TimeoutRestartsFrame : Prop :=
  ∀ (b : Byte) (ts : Stamp) (r : Bool) (s : State), ∃ t, exec (.byteIn b ts r) s = .next t ∧
    (1100 < (ts - s.tStart).toNat →
      (∀ a, t.fb.read a = if a = 0 then b else s.fb.read a) ∧ t.pos = 1 ∧ t.tStart = ts ∧ t.errCnt = s.errCnt ∧
      t.out = { s.out with rxEvent := if s.pos = 0 then .stored else .storedResync }) ∧
    ((ts - s.tStart).toNat ≤ 1100 → t.out.rxEvent ≠ .storedResync)

/-- A framing error (R124): the size is outside 4 to 64, so the byte is not stored, the cursor returns to 0, the failure is
counted (R129, R130), and nothing else changes. -/
def Obligations.FramingErrorDropsByte : Prop :=
  ∀ (b : Byte) (ts : Stamp) (r : Bool) (s : State),
    sizeFor s (cursorFor s ts) < 4 ∨ 64 < sizeFor s (cursorFor s ts) →
    ∃ t, exec (.byteIn b ts r) s = .next t ∧
      t.fb = s.fb ∧ t.pos = 0 ∧ t.tStart = s.tStart ∧ CountedFailure s t ∧
      t.out = { s.out with rxEvent := .framingError, fallbackReq := t.out.fallbackReq } ∧
      t.snap = s.snap ∧ t.ready = s.ready ∧ t.ch = s.ch ∧ t.params = s.params ∧
      t.inputs = s.inputs ∧ t.hostClock = s.hostClock ∧ t.crc = s.crc

/-- A CRC error (R126, R128): the byte completes a frame whose CRC over the post-write buffer does not match the byte at
S - 1. The byte is stored, the cursor returns to 0, nothing is dispatched, and the failure is counted. R126 gives p + 1 = S;
that a cursor beyond the size, which no run reaches, completes the frame too is the model's reading (log entry 14). -/
def Obligations.CrcErrorDiscardsFrame : Prop :=
  ∀ (b : Byte) (ts : Stamp) (r : Bool) (s : State) (p : BufIdx) (P : PayloadLen), p = cursorFor s ts →
    sizeFor s p = P.val + 4 → P.val + 4 ≤ p.toNat + 1 →
    crc8 0xD5#8 ((s.fb.write p b).slice 2 (P.val + 2)) ≠ (s.fb.write p b).read (P.val + 3) →
    ∃ t, exec (.byteIn b ts r) s = .next t ∧
      t.fb = s.fb.write p b ∧ t.pos = 0 ∧ t.tStart = s.tStart ∧ CountedFailure s t ∧
      t.out = { s.out with rxEvent := .crcError, fallbackReq := t.out.fallbackReq } ∧
      t.snap = s.snap ∧ t.ready = s.ready ∧ t.ch = s.ch ∧ t.params = s.params ∧
      t.inputs = s.inputs ∧ t.hostClock = s.hostClock

/-- A CRC match (R126, R127, R150): the byte is stored, the cursor returns to 0, with version 3 the counter is reset, and the
operation that the type byte decodes to runs on the post-write buffer in the same step. R126 gives p + 1 = S; that a cursor
beyond the size, which no run reaches, completes the frame too is the model's reading (log entry 14), and the checksum result
on the state's wires is the model's own (log entry 6). -/
def Obligations.ValidFrameRunsItsRoute : Prop :=
  ∀ (b : Byte) (ts : Stamp) (r : Bool) (s : State) (p : BufIdx) (P : PayloadLen), p = cursorFor s ts →
    sizeFor s p = P.val + 4 → P.val + 4 ≤ p.toNat + 1 →
    crc8 0xD5#8 ((s.fb.write p b).slice 2 (P.val + 2)) = (s.fb.write p b).read (P.val + 3) →
    exec (.byteIn b ts r) s =
      exec (decodeType s.params ((s.fb.write p b).read 2) P r)
        { s with
          fb := s.fb.write p b
          pos := 0
          errCnt := if s.params.v3 then 0 else s.errCnt
          out := { s.out with rxEvent := .frameValid }
          crc := { s.crc with frameCrc := crc8 0xD5#8 ((s.fb.write p b).slice 2 (P.val + 2)), frameOk := true } }

/-- Every operation that ends a frame leaves the block seeking a start (60_exceptions.md R216, the spec's own inference from
R124 and R126): after FRAME_VALID, CRC_ERROR
and FRAMING_ERROR the cursor is 0, and after a stored byte it is not. -/
def Obligations.FrameEndReturnsToStart : Prop :=
  ∀ s t : State, step s = .next t →
    (t.out.rxEvent = .frameValid ∨ t.out.rxEvent = .crcError ∨ t.out.rxEvent = .framingError → t.pos = 0) ∧
    (t.out.rxEvent = .stored ∨ t.out.rxEvent = .storedResync → t.pos ≠ 0)

/-- The fallback request (R129, R130): asserted in exactly those steps whose failed frame brings the count to 100, only with
version 3, and then the counter is 0. -/
def Obligations.FallbackExactlyAtThreshold : Prop :=
  ∀ s t : State, step s = .next t →
    (t.out.fallbackReq = true ↔
      s.params.v3 = true ∧ (t.out.rxEvent = .crcError ∨ t.out.rxEvent = .framingError) ∧ 99 ≤ s.errCnt.toNat) ∧
    (t.out.fallbackReq = true → t.errCnt = 0)

/-- The counter's only writers (10_state.md R25, R127, R129, R134): outside reset, it changes only in a step with a framing
error, a CRC error or a valid frame; a failure raises it by one unless it is the hundredth, a valid frame clears it. -/
def Obligations.CounterFollowsEvents : Prop :=
  ∀ s t : State, s.currentInput.rst = false → s.params.v3 = true → step s = .next t →
    (t.out.rxEvent = .frameValid → t.errCnt = 0) ∧
    (t.out.rxEvent = .crcError ∨ t.out.rxEvent = .framingError → s.errCnt.toNat < 99 →
      t.errCnt.toNat = s.errCnt.toNat + 1) ∧
    (t.out.rxEvent = .idle ∨ t.out.rxEvent = .stored ∨ t.out.rxEvent = .storedResync → t.errCnt = s.errCnt)

/-- A resync is not a failure (41_frame_assembler.md R134): the counter does not change and no output other than `rx_event`
tells of it. -/
def Obligations.ResyncIsNotFailure : Prop :=
  ∀ s t : State, step s = .next t → t.out.rxEvent = .storedResync →
    t.errCnt = s.errCnt ∧ t.out.fallbackReq = false ∧ t.out.dispValid = false ∧ t.out.filtReason = .none

/-- Without version 3 (R131) the counter is never counted up and the fallback is never requested. -/
def Obligations.VersionTwoNeverCounts : Prop :=
  ∀ s t : State, s.params.v3 = false → step s = .next t →
    t.out.fallbackReq = false ∧ (s.errCnt = 0 → t.errCnt = 0) ∧
    (s.currentInput.rst = false → t.errCnt = s.errCnt)

/-- Only the byte at the working cursor can change in the frame buffer, and only in a step with a byte (10_state.md R21,
20_memory.md R55). -/
def Obligations.BufferChangesAtCursorOnly : Prop :=
  ∀ s t : State, s.currentInput.rst = false → step s = .next t →
    ∀ a, s.currentInput.byteValid = false ∨ a ≠ (cursorFor s s.currentInput.tsIn).toNat →
      t.fb.read a = s.fb.read a

/-- The frame-buffer reuse window (70_reset_and_hazards.md R236, the spec's own inference from R124 to R126): from a state at
cursor 0, as every dispatch leaves it, byte k of the buffer stays as it is through any number of steps without reset that
present at most k bytes. -/
def Obligations.DispatchedFrameStaysReadable : Prop :=
  ∀ (xs : List Inputs) (s u : State) (rest : List Inputs) (k : Nat),
    s.pos = 0 → s.inputs = xs ++ rest → (∀ x ∈ xs, x.rst = false) → (xs.filter (·.byteValid)).length ≤ k →
    Host.Core.run core xs.length s = .next u → u.fb.read k = s.fb.read k

/-- Only a POLL that finds a waiting frame writes channel registers outside reset (10_state.md R28, 20_memory.md R55). -/
def Obligations.ChannelsChangeByPollOnly : Prop :=
  ∀ s t : State, s.currentInput.rst = false → step s = .next t →
    s.currentInput.poll = false ∨ s.ready = false → t.ch = s.ch

/-- Completion exactly once (41_frame_assembler.md R133, the spec's own inference from R121 to R127): a well-formed frame
with a matching CRC, presented in consecutive steps from `pos = 0` with every timestamp at most 1100 after the first, gives
STORED and no dispatch on every byte but the last, and FRAME_VALID on the last. Polls may fall anywhere. -/
def Obligations.FrameCompletesExactlyOnce : Prop :=
  ∀ (s : State) (a t : Byte) (payload : List Byte) (x : Inputs) (xs rest : List Inputs),
    payload.length ≤ 60 → s.pos = 0 → s.inputs = (x :: xs) ++ rest →
    (x :: xs).map (·.byteIn) = frameBytes a t payload →
    (∀ y ∈ x :: xs, y.rst = false ∧ y.byteValid = true ∧ (y.tsIn - x.tsIn).toNat ≤ 1100) →
    (∀ n, n + 1 < (x :: xs).length → ∃ u : State, Host.Core.run core (n + 1) s = .next u ∧
      u.out.rxEvent = .stored ∧ u.out.dispValid = false ∧ u.out.filtReason = .none) ∧
    ∃ u : State, Host.Core.run core (x :: xs).length s = .next u ∧
      u.out.rxEvent = .frameValid ∧ u.pos = 0 ∧ u.inputs = rest ∧
      ∀ k, k < (frameBytes a t payload).length → (frameBytes a t payload)[k]? = some (u.fb.read k)

/-! ## The dispatcher -/

/-- A CRC-valid frame is either routed or filtered, neither touches the counter beyond the reset of R127, and in every other
step no dispatch output is driven (42_dispatcher.md R150, R163, R167; R166 is the spec's own inference from them). -/
def Obligations.ValidFrameRoutedOrFiltered : Prop :=
  ∀ s t : State, step s = .next t →
    (t.out.rxEvent = .frameValid →
      ((t.out.dispValid = true ∧ t.out.filtReason = .none) ∨ (t.out.dispValid = false ∧ t.out.filtReason ≠ .none)) ∧
      t.errCnt = (if s.params.v3 then 0 else s.errCnt)) ∧
    (t.out.rxEvent ≠ .frameValid → t.out.dispValid = false ∧ t.out.filtReason = .none) ∧
    (t.out.dispValid = false →
      t.out.dispRoute = .none ∧ t.out.dispType = 0 ∧ t.out.dispSize = 0 ∧ t.out.dispPlOff = 0 ∧ t.out.dispPlLen = 0)

/-- RC_FIXED (R152, R154): for the flight controller, the whole buffer becomes the snapshot, the latch is set, and the frame
is reported on route 1 with its whole payload; for another address nothing but `filt_reason` is written. -/
def Obligations.RcFixedRoute : Prop :=
  ∀ (P : PayloadLen) (s : State),
    (s.fb.read 0 = s.params.addrFc →
      exec (.rcFixed P) s = .next { s with
        snap := s.fb, ready := true, out := routedOut s.out .rcFixed (s.fb.read 2) (P.val + 4) 3 P.val }) ∧
    (s.fb.read 0 ≠ s.params.addrFc →
      exec (.rcFixed P) s = .next { s with out := filteredOut s.out .addrMismatch })

/-- RC_SUBSET (R153, R154): as RC_FIXED on route 2 with version 3; without it the type is unknown (R162). -/
def Obligations.RcSubsetRoute : Prop :=
  ∀ (P : PayloadLen) (s : State),
    (s.params.v3 = true → s.fb.read 0 = s.params.addrFc →
      exec (.rcSubset P) s = .next { s with
        snap := s.fb, ready := true, out := routedOut s.out .rcSubset (s.fb.read 2) (P.val + 4) 3 P.val }) ∧
    (s.params.v3 = true → s.fb.read 0 ≠ s.params.addrFc →
      exec (.rcSubset P) s = .next { s with out := filteredOut s.out .addrMismatch }) ∧
    (s.params.v3 = false →
      exec (.rcSubset P) s = .next { s with out := filteredOut s.out .unknownType })

/-- MSP_REQ and MSP_WRITE (R155): with P_TELEM, route 3 from any address, the window starting after the two extended-header
bytes with length max(0, S - 6); without it the type is unknown. -/
def Obligations.MspRoutes : Prop :=
  ∀ (P : PayloadLen) (s : State) (i : Instr), i = .mspReq P ∨ i = .mspWrite P →
    (s.params.telem = true →
      exec i s = .next { s with out := routedOut s.out .msp (s.fb.read 2) (P.val + 4) 5 (P.val - 2) }) ∧
    (s.params.telem = false → exec i s = .next { s with out := filteredOut s.out .unknownType })

/-- DEVICE_PING (R156) and DISPLAYPORT (R157): with P_TELEM, routes 4 and 5 from any address with the whole payload; without
it the type is unknown. -/
def Obligations.PingAndDisplayportRoutes : Prop :=
  ∀ (P : PayloadLen) (s : State) (i : Instr) (c : RouteCode),
    (i = .devicePing P ∧ c = .devicePing) ∨ (i = .displayport P ∧ c = .displayport) →
    (s.params.telem = true →
      exec i s = .next { s with out := routedOut s.out c (s.fb.read 2) (P.val + 4) 3 P.val }) ∧
    (s.params.telem = false → exec i s = .next { s with out := filteredOut s.out .unknownType })

/-- LINK_STATS (R158): route 6 exactly when the RSSI source is this protocol and the payload has the expected length, else
gated. -/
def Obligations.LinkStatsRoute : Prop :=
  ∀ (P : PayloadLen) (r : Bool) (s : State),
    (r = true → P = s.params.linkStatsLen →
      exec (.linkStats P r) s = .next { s with
        out := routedOut s.out .linkStats (s.fb.read 2) (P.val + 4) 3 P.val }) ∧
    (r = false ∨ P ≠ s.params.linkStatsLen →
      exec (.linkStats P r) s = .next { s with out := filteredOut s.out .gated })

/-- LINK_STATS_RX (R159) and LINK_STATS_TX (R160): with version 3, route 7 from any address and route 8 for the flight
controller only, of any length; without version 3 both types are unknown. -/
def Obligations.LinkStatsRxTxRoutes : Prop :=
  ∀ (P : PayloadLen) (s : State),
    (s.params.v3 = true →
      exec (.linkStatsRx P) s = .next { s with
        out := routedOut s.out .linkStatsRx (s.fb.read 2) (P.val + 4) 3 P.val }) ∧
    (s.params.v3 = true → s.fb.read 0 = s.params.addrFc →
      exec (.linkStatsTx P) s = .next { s with
        out := routedOut s.out .linkStatsTx (s.fb.read 2) (P.val + 4) 3 P.val }) ∧
    (s.params.v3 = true → s.fb.read 0 ≠ s.params.addrFc →
      exec (.linkStatsTx P) s = .next { s with out := filteredOut s.out .addrMismatch }) ∧
    (s.params.v3 = false →
      exec (.linkStatsRx P) s = .next { s with out := filteredOut s.out .unknownType } ∧
      exec (.linkStatsTx P) s = .next { s with out := filteredOut s.out .unknownType })

/-- COMMAND (R161): with version 3 the inner CRC is checked first, then the byte at P_CMD_ADDR_INDEX; only a frame that passes
both takes route 9. The checksum result is on the model's own wires. Without version 3 the type is unknown. -/
def Obligations.CommandRoute : Prop :=
  ∀ (P : PayloadLen) (s : State) (body : List Byte) (c : Byte) (out : Outputs), body.length = P.val - 1 →
    (∀ j (h : j < body.length), body[j] = s.fb.read (3 + j)) →
    c = crc8 s.params.polyCmd (s.fb.read 2 :: body) →
    out = (if c ≠ s.fb.read (P.val + 2) then filteredOut s.out .cmdCrcMismatch
      else if s.fb.read s.params.cmdAddrIndex.toNat ≠ s.params.cmdAddrValue then filteredOut s.out .cmdAddrMismatch
      else routedOut s.out .command (s.fb.read 2) (P.val + 4) 3 P.val) →
    (s.params.v3 = true →
      exec (.command P) s = .next { s with
        out := out
        crc := { s.crc with cmdCrc := c, cmdOk := decide (c = s.fb.read (P.val + 2)) } }) ∧
    (s.params.v3 = false → exec (.command P) s = .next { s with out := filteredOut s.out .unknownType })

/-- UNKNOWN_TYPE (R162): ignored, `filt_reason = UNKNOWN_TYPE`, no other effect. -/
def Obligations.UnknownTypeIgnored : Prop :=
  ∀ (t : Byte) (s : State), exec (.unknownType t) s = .next { s with out := filteredOut s.out .unknownType }

/-- The type decode (R151, R78, R162) for every admissible parameter set: each enabled type code selects its own arm, a code
whose build option is off and every other byte select UNKNOWN_TYPE. -/
def Obligations.TypeByteSelectsItsArm : Prop :=
  ∀ p : Params, p.Valid →
    decodeKind p p.typeRc = .rcFixed ∧
    decodeKind p p.typeSubset = (if p.v3 then .rcSubset else .unknownType) ∧
    decodeKind p p.typeMspReq = (if p.telem then .mspReq else .unknownType) ∧
    decodeKind p p.typeMspWrite = (if p.telem then .mspWrite else .unknownType) ∧
    decodeKind p p.typePing = (if p.telem then .devicePing else .unknownType) ∧
    decodeKind p p.typeDisplayport = (if p.telem then .displayport else .unknownType) ∧
    decodeKind p p.typeLinkStats = .linkStats ∧
    decodeKind p p.typeLinkStatsRx = (if p.v3 then .linkStatsRx else .unknownType) ∧
    decodeKind p p.typeLinkStatsTx = (if p.v3 then .linkStatsTx else .unknownType) ∧
    decodeKind p p.typeCommand = (if p.v3 then .command else .unknownType) ∧
    ∀ t, t ∉ p.typeCodes → decodeKind p t = .unknownType

/-- The frame address is looked at only for the RC-channel types and link-statistics-TX (30_encoding.md R79): for every other
type another byte at index 0 changes no output, no latch and no snapshot. -/
def Obligations.AddressCheckedForThreeTypesOnly : Prop :=
  ∀ (i : Instr) (s t u : State) (P : PayloadLen) (r : Bool) (c v : Byte),
    i = .mspReq P ∨ i = .mspWrite P ∨ i = .devicePing P ∨ i = .displayport P ∨ i = .linkStats P r ∨
      i = .linkStatsRx P ∨ i = .command P ∨ i = .unknownType c →
    exec i s = .next t → exec i { s with fb := s.fb.write 0 v } = .next u →
    u.out = t.out ∧ u.ready = t.ready ∧ u.snap = t.snap

/-! ## The unpacker -/

/-- POLL with nothing waiting (43_channel_unpacker.md R180, R181): PENDING, and nothing else changes. -/
def Obligations.PollPending : Prop :=
  ∀ s : State, s.ready = false →
    exec .poll s = .next { s with out := { s.out with pollDone := true, pollStatus := .pending } }

/-- POLL of a fixed-format snapshot (R183, R80): COMPLETE, the latch cleared, and bit j of every channel i is payload bit
11·i + j, bit (k mod 8) of snapshot byte 3 + (k div 8); the length byte is not consulted. Nothing else changes. -/
def Obligations.PollDecodesFixedFormat : Prop :=
  ∀ s : State, s.ready = true → s.snap.read 2 = s.params.typeRc →
    ∃ v : Vector ChVal 16,
      (∀ i (_ : i < 16) j, j < 11 →
        v[i].getLsbD j = (s.snap.read (3 + (11 * i + j) / 8)).getLsbD ((11 * i + j) % 8)) ∧
      exec .poll s = .next { s with
        ready := false, ch := v, out := { s.out with pollDone := true, pollStatus := .complete } }

/-- POLL of a subset-format snapshot (R184 to R187, R81): the start channel is the low five bits of the first payload byte,
the count is truncating and 0 without payload; channel `start + n` takes field n, whose bit j is payload bit 5 + 11·n + j;
every other channel keeps its value and nothing is written past channel 15. Nothing else changes. -/
def Obligations.PollDecodesSubsetFormat : Prop :=
  ∀ (s : State) (P start count : Nat), s.ready = true → s.params.v3 = true → s.params.typeRc ≠ s.params.typeSubset →
    s.snap.read 2 = s.params.typeSubset →
    P = (s.snap.read 1).toNat - 2 → start = (s.snap.read 3).toNat % 32 →
    count = (if P = 0 then 0 else (8 * P - 5) / 11) →
    ∃ v : Vector ChVal 16,
      (∀ n, n < count → ∀ h : start + n < 16, ∀ j, j < 11 →
        (v[start + n]'h).getLsbD j =
          (s.snap.read (3 + (5 + 11 * n + j) / 8)).getLsbD ((5 + 11 * n + j) % 8)) ∧
      (∀ i (h : i < 16), i < start ∨ start + count ≤ i → v[i] = s.ch[i]) ∧
      exec .poll s = .next { s with
        ready := false, ch := v, out := { s.out with pollDone := true, pollStatus := .complete } }

/-- POLL of a snapshot of neither RC-channel type (R180's last arm, which no run reaches): COMPLETE, the latch cleared, no
channel written, and nothing else changed. -/
def Obligations.PollOtherTypeWritesNoChannel : Prop :=
  ∀ s : State, s.ready = true → s.snap.read 2 ≠ s.params.typeRc →
    s.params.v3 = false ∨ s.snap.read 2 ≠ s.params.typeSubset →
    exec .poll s = .next { s with
      ready := false, out := { s.out with pollDone := true, pollStatus := .complete } }

/-- The rolling accumulator of R184 "is equal, value for value, to the closed form" of R81, for every buffer content. -/
def Obligations.RollingAccumulatorEqualsClosedForm : Prop :=
  ∀ (m : Memory) (ch : Vector ChVal 16), subsetDecodeRolling m ch = subsetDecode m ch

/-- Packing sixteen channel values into the 22-byte payload and polling gives the values back exactly (R75, R80, R183). -/
def Obligations.FixedFormatRoundTrip : Prop :=
  ∀ (s : State) (v : Vector ChVal 16), s.ready = true → s.snap.read 2 = s.params.typeRc →
    (∀ j, j < 22 → (packFixed v)[j]? = some (s.snap.read (3 + j))) →
    exec .poll s = .next { s with
      ready := false, ch := v, out := { s.out with pollDone := true, pollStatus := .complete } }

/-- POLL is idempotent once nothing waits (20_memory.md R58; R190 is the spec's own inference from R180): a second POLL in a
row returns PENDING and changes no register; and with nothing waiting, steps that take no RC-channel frame leave it so and
never touch a channel. -/
def Obligations.SecondPollIsPending : Prop :=
  (∀ s t : State, exec .poll s = .next t →
    exec .poll t = .next { t with out := { t.out with pollDone := true, pollStatus := .pending } }) ∧
  ∀ s t : State, s.ready = false → s.currentInput.rst = false → step s = .next t → ¬ TookRcFrame t →
    t.ready = false ∧ t.ch = s.ch ∧ t.out.pollStatus = .pending

/-! ## Encoding -/

/-- Decode and encode agree (30_encoding.md R77, R78): for every admissible parameter set and every operation of that
instance, the decoder reads the operation from its word with every operand: alone from a frame type, as the one strobed
operation or as a read port from an input pattern. -/
def Obligations.DecodeOfEncode : Prop :=
  ∀ (p : Params) (i : Instr), p.Valid → i.wellFormed p = true →
    match encode p i with
    | some (.frameType t P r) => decode p (.frameType t P r) = [i]
    | some (.ports x) => i ∈ decode p (.ports x) ∧ (strobes x = [i] ∨ i ∈ readPorts x)
    | none => ∃ P, i = .frameCrc P ∨ i = .cmdCrc P

/-- One word of each control-vector and frame-type row of the opcode table (R77, R78), but for READ_CH and FB_READ, which match
every control vector; and a two-byte word, which is no word of the table. How a bare word is read is the model's choice (log
entry 10). -/
def Obligations.TableWordsDecode : Prop :=
  decodeTableWord 8 0b100 = some (.reset 0) ∧ decodeTableWord 8 0b010 = some (.byteIn 0 0 false) ∧
  decodeTableWord 8 0b001 = some .poll ∧ decodeTableWord 8 0b000 = some .nop ∧
  decodeTableWord 8 0x16 = some (.rcFixed 0) ∧ decodeTableWord 8 0x17 = some (.rcSubset 0) ∧
  decodeTableWord 8 0x7A = some (.mspReq 0) ∧ decodeTableWord 8 0x7C = some (.mspWrite 0) ∧
  decodeTableWord 8 0x28 = some (.devicePing 0) ∧ decodeTableWord 8 0x7D = some (.displayport 0) ∧
  decodeTableWord 8 0x14 = some (.linkStats 0 false) ∧ decodeTableWord 8 0x1C = some (.linkStatsRx 0) ∧
  decodeTableWord 8 0x1D = some (.linkStatsTx 0) ∧ decodeTableWord 8 0x32 = some (.command 0) ∧
  decodeTableWord 8 0x99 = some (.unknownType 0x99#8) ∧ decodeTableWord 16 0x0016 = none
end

