-- ==== Sys2Proof/Laws/Memory.lean ====
section
/-! SUPPORT. The laws of a buffer: a read after a write, and the canonical form that every write keeps. -/

namespace Sys2Proof.Machine

@[simp] theorem Memory.read_nil (a : Nat) : Memory.read [] a = 0 := rfl

theorem Memory.read_insert (m : Memory) (a : Nat) (v : Byte) (b : Nat) :
    (m.insert a v).read b = if a = b then v else m.read b := by
  induction m with
  | nil => simp [Memory.insert, Memory.read]
  | cons c m ih =>
    obtain ⟨k, w⟩ := c
    unfold Memory.insert
    split
    · subst k; by_cases h : a = b <;> simp [Memory.read, h]
    · split
      · by_cases h : a = b <;> simp [Memory.read, h]
      · by_cases h : k = b
        · have : a ≠ b := by omega
          simp [Memory.read, h, this]
        · simp [Memory.read, h, ih]

theorem Memory.read_clear (m : Memory) (a b : Nat) :
    (m.clear a).read b = if a = b then 0 else m.read b := by
  induction m with
  | nil => simp [Memory.clear]
  | cons c m ih =>
    obtain ⟨k, w⟩ := c
    have e : Memory.clear ((k, w) :: m) a = if k = a then Memory.clear m a else (k, w) :: Memory.clear m a := by
      by_cases h : k = a <;> simp [Memory.clear, h]
    rw [e]
    by_cases hk : k = a
    · subst hk
      rw [if_pos rfl, ih]
      by_cases h : k = b <;> simp [Memory.read, h]
    · rw [if_neg hk]
      by_cases h : k = b
      · have : a ≠ b := by omega
        simp [Memory.read, h, this]
      · simp [Memory.read, h, ih]

/-- A read after a write: the byte written at that index, every other index as before. -/
theorem Memory.read_write (m : Memory) (a : BufIdx) (v : Byte) (b : Nat) :
    (m.write a v).read b = if a.toNat = b then v else m.read b := by
  unfold Memory.write
  split
  · rename_i h; rw [Memory.read_clear, h]
  · exact Memory.read_insert ..

@[simp] theorem Memory.read_write_same (m : Memory) (a : BufIdx) (v : Byte) :
    (m.write a v).read a.toNat = v := by
  simp [Memory.read_write]

theorem Memory.read_write_other (m : Memory) (a : BufIdx) (v : Byte) (b : Nat) (h : a.toNat ≠ b) :
    (m.write a v).read b = m.read b := by
  simp [Memory.read_write, h]

/-! ## The canonical form -/

theorem Memory.wf_cons {a : Nat} {v : Byte} {m : Memory} :
    Memory.wf ((a, v) :: m) = true ↔ a < 64 ∧ v ≠ 0 ∧ (∀ c ∈ m, a < c.1) ∧ m.wf = true := by
  simp [Memory.wf, and_assoc]

theorem Memory.mem_insert {m : Memory} {a : Nat} {v : Byte} {c : Host.Cell} (h : c ∈ m.insert a v) :
    c = (a, v) ∨ c ∈ m := by
  induction m with
  | nil => simpa [Memory.insert] using h
  | cons d m ih =>
    obtain ⟨k, w⟩ := d
    unfold Memory.insert at h
    split at h
    · simp at h ⊢; tauto
    · split at h
      · simpa using h
      · simp at h ⊢
        rcases h with h | h
        · exact .inr (.inl h)
        · rcases ih h with h | h
          · exact .inl h
          · exact .inr (.inr h)

theorem Memory.wf_insert {m : Memory} {a : Nat} {v : Byte} (hm : m.wf = true) (ha : a < 64) (hv : v ≠ 0) :
    (m.insert a v).wf = true := by
  induction m with
  | nil => exact Memory.wf_cons.2 ⟨ha, hv, by simp, rfl⟩
  | cons d m ih =>
    obtain ⟨k, w⟩ := d
    obtain ⟨hk, hw, hall, hm'⟩ := Memory.wf_cons.1 hm
    unfold Memory.insert
    split
    · subst k; exact Memory.wf_cons.2 ⟨ha, hv, hall, hm'⟩
    · split
      · rename_i hlt
        refine Memory.wf_cons.2 ⟨ha, hv, ?_, hm⟩
        intro c hc
        rcases List.mem_cons.1 hc with rfl | hc
        · exact hlt
        · exact Nat.lt_trans hlt (hall c hc)
      · refine Memory.wf_cons.2 ⟨hk, hw, ?_, ih hm'⟩
        intro c hc
        rcases Memory.mem_insert hc with rfl | hc
        · show k < a; omega
        · exact hall c hc

theorem Memory.wf_clear {m : Memory} (a : Nat) (hm : m.wf = true) : (m.clear a).wf = true := by
  induction m with
  | nil => rfl
  | cons d m ih =>
    obtain ⟨k, w⟩ := d
    obtain ⟨hk, hw, hall, hm'⟩ := Memory.wf_cons.1 hm
    by_cases h : k = a
    · simpa [Memory.clear, h] using ih hm'
    · have e : Memory.clear ((k, w) :: m) a = (k, w) :: Memory.clear m a := by simp [Memory.clear, h]
      rw [e]
      exact Memory.wf_cons.2 ⟨hk, hw, fun c hc => hall c (List.mem_filter.1 hc).1, ih hm'⟩

/-- Every write keeps the canonical form. -/
theorem Memory.wf_write {m : Memory} (a : BufIdx) (v : Byte) (hm : m.wf = true) : (m.write a v).wf = true := by
  unfold Memory.write
  split
  · exact Memory.wf_clear _ hm
  · rename_i h; exact Memory.wf_insert hm a.isLt h

/-- No byte of a canonical buffer stands at an index of 64 or more. -/
theorem Memory.read_out_of_range {m : Memory} (hm : m.wf = true) {a : Nat} (ha : 64 ≤ a) : m.read a = 0 := by
  induction m with
  | nil => rfl
  | cons d m ih =>
    obtain ⟨k, w⟩ := d
    obtain ⟨hk, _, _, hm'⟩ := Memory.wf_cons.1 hm
    have : k ≠ a := by omega
    simpa [Memory.read, this] using ih hm'

theorem Memory.read_lt_head {m : Memory} {k : Nat} (h : ∀ c ∈ m, k < c.1) {a : Nat} (ha : a ≤ k) : m.read a = 0 := by
  induction m with
  | nil => rfl
  | cons d m ih =>
    obtain ⟨j, w⟩ := d
    have hj : k < j := h _ (List.mem_cons_self ..)
    have : j ≠ a := by omega
    simpa [Memory.read, this] using ih fun c hc => h c (List.mem_cons_of_mem _ hc)

/-- A canonical buffer is determined by what it reads. -/
theorem Memory.ext_of_wf {m n : Memory} (hm : m.wf = true) (hn : n.wf = true) (h : ∀ a, m.read a = n.read a) : m = n := by
  induction m generalizing n with
  | nil =>
    cases n with
    | nil => rfl
    | cons d n =>
      obtain ⟨k, w⟩ := d
      obtain ⟨_, hw, _, _⟩ := Memory.wf_cons.1 hn
      exact absurd (by simpa [Memory.read] using (h k).symm) hw
  | cons d m ih =>
    obtain ⟨k, w⟩ := d
    obtain ⟨_, hw, hall, hm'⟩ := Memory.wf_cons.1 hm
    cases n with
    | nil => exact absurd (by simpa [Memory.read] using h k) hw
    | cons e n =>
      obtain ⟨j, x⟩ := e
      obtain ⟨_, hx, hall', hn'⟩ := Memory.wf_cons.1 hn
      have hkj : k = j := by
        rcases Nat.lt_trichotomy k j with hlt | heq | hgt
        · have h1 := h k
          have hz : Memory.read n k = 0 := Memory.read_lt_head (k := j) hall' (by omega)
          have : j ≠ k := by omega
          simp [Memory.read, this, hz] at h1
          exact absurd h1 hw
        · exact heq
        · have h1 := h j
          have hz : Memory.read m j = 0 := Memory.read_lt_head (k := k) hall (by omega)
          have : k ≠ j := by omega
          simp [Memory.read, this, hz] at h1
          exact absurd h1.symm hx
      subst hkj
      have hwx : w = x := by simpa [Memory.read] using h k
      subst hwx
      congr 1
      refine ih hm' hn' fun a => ?_
      by_cases hka : k = a
      · subst hka
        rw [Memory.read_lt_head hall (Nat.le_refl _), Memory.read_lt_head hall' (Nat.le_refl _)]
      · simpa [Memory.read, hka] using h a

/-! ## Slices -/

@[simp] theorem Memory.length_slice (m : Memory) (a b : Nat) : (m.slice a b).length = b + 1 - a := by
  simp [Memory.slice]

@[simp] theorem Memory.getElem_slice (m : Memory) (a b j : Nat) (h : j < (m.slice a b).length) :
    (m.slice a b)[j] = m.read (a + j) := by
  simp [Memory.slice]

/-- A slice depends only on the bytes it covers. -/
theorem Memory.slice_congr {m n : Memory} {a b : Nat} (h : ∀ i, a ≤ i → i ≤ b → m.read i = n.read i) :
    m.slice a b = n.slice a b := by
  refine List.ext_getElem (by simp) fun j h1 h2 => ?_
  simp at h1
  simpa using h (a + j) (by omega) (by omega)

end Sys2Proof.Machine
end

