-- ==== Sys2Proof/Laws/State.lean ====
section
/-! SUPPORT. One lemma per field of State per named update (Machine/Ops.lean, Machine/Flags.lean), so that no proof unfolds a
record update. -/

namespace Sys2Proof.Machine

variable (s : State)

/-! ## emitRx -/

@[simp] theorem State.emitRx_params (e : RxEvent) : (s.emitRx e).params = s.params := rfl
@[simp] theorem State.emitRx_fb (e : RxEvent) : (s.emitRx e).fb = s.fb := rfl
@[simp] theorem State.emitRx_pos (e : RxEvent) : (s.emitRx e).pos = s.pos := rfl
@[simp] theorem State.emitRx_tStart (e : RxEvent) : (s.emitRx e).tStart = s.tStart := rfl
@[simp] theorem State.emitRx_errCnt (e : RxEvent) : (s.emitRx e).errCnt = s.errCnt := rfl
@[simp] theorem State.emitRx_snap (e : RxEvent) : (s.emitRx e).snap = s.snap := rfl
@[simp] theorem State.emitRx_ready (e : RxEvent) : (s.emitRx e).ready = s.ready := rfl
@[simp] theorem State.emitRx_ch (e : RxEvent) : (s.emitRx e).ch = s.ch := rfl
@[simp] theorem State.emitRx_inputs (e : RxEvent) : (s.emitRx e).inputs = s.inputs := rfl
@[simp] theorem State.emitRx_hostClock (e : RxEvent) : (s.emitRx e).hostClock = s.hostClock := rfl
@[simp] theorem State.emitRx_out (e : RxEvent) : (s.emitRx e).out = { s.out with rxEvent := e } := rfl
@[simp] theorem State.emitRx_crc (e : RxEvent) : (s.emitRx e).crc = s.crc := rfl

/-! ## emitFallback -/

@[simp] theorem State.emitFallback_params : (s.emitFallback).params = s.params := rfl
@[simp] theorem State.emitFallback_fb : (s.emitFallback).fb = s.fb := rfl
@[simp] theorem State.emitFallback_pos : (s.emitFallback).pos = s.pos := rfl
@[simp] theorem State.emitFallback_tStart : (s.emitFallback).tStart = s.tStart := rfl
@[simp] theorem State.emitFallback_errCnt : (s.emitFallback).errCnt = s.errCnt := rfl
@[simp] theorem State.emitFallback_snap : (s.emitFallback).snap = s.snap := rfl
@[simp] theorem State.emitFallback_ready : (s.emitFallback).ready = s.ready := rfl
@[simp] theorem State.emitFallback_ch : (s.emitFallback).ch = s.ch := rfl
@[simp] theorem State.emitFallback_inputs : (s.emitFallback).inputs = s.inputs := rfl
@[simp] theorem State.emitFallback_hostClock : (s.emitFallback).hostClock = s.hostClock := rfl
@[simp] theorem State.emitFallback_out : (s.emitFallback).out = { s.out with fallbackReq := true } := rfl
@[simp] theorem State.emitFallback_crc : (s.emitFallback).crc = s.crc := rfl

/-! ## emitDispatch -/

@[simp] theorem State.emitDispatch_params (r : RouteCode) (P : PayloadLen) (w : Nat × Nat) : (s.emitDispatch r P w).params = s.params := rfl
@[simp] theorem State.emitDispatch_fb (r : RouteCode) (P : PayloadLen) (w : Nat × Nat) : (s.emitDispatch r P w).fb = s.fb := rfl
@[simp] theorem State.emitDispatch_pos (r : RouteCode) (P : PayloadLen) (w : Nat × Nat) : (s.emitDispatch r P w).pos = s.pos := rfl
@[simp] theorem State.emitDispatch_tStart (r : RouteCode) (P : PayloadLen) (w : Nat × Nat) : (s.emitDispatch r P w).tStart = s.tStart := rfl
@[simp] theorem State.emitDispatch_errCnt (r : RouteCode) (P : PayloadLen) (w : Nat × Nat) : (s.emitDispatch r P w).errCnt = s.errCnt := rfl
@[simp] theorem State.emitDispatch_snap (r : RouteCode) (P : PayloadLen) (w : Nat × Nat) : (s.emitDispatch r P w).snap = s.snap := rfl
@[simp] theorem State.emitDispatch_ready (r : RouteCode) (P : PayloadLen) (w : Nat × Nat) : (s.emitDispatch r P w).ready = s.ready := rfl
@[simp] theorem State.emitDispatch_ch (r : RouteCode) (P : PayloadLen) (w : Nat × Nat) : (s.emitDispatch r P w).ch = s.ch := rfl
@[simp] theorem State.emitDispatch_inputs (r : RouteCode) (P : PayloadLen) (w : Nat × Nat) : (s.emitDispatch r P w).inputs = s.inputs := rfl
@[simp] theorem State.emitDispatch_hostClock (r : RouteCode) (P : PayloadLen) (w : Nat × Nat) : (s.emitDispatch r P w).hostClock = s.hostClock := rfl
@[simp] theorem State.emitDispatch_out (r : RouteCode) (P : PayloadLen) (w : Nat × Nat) : (s.emitDispatch r P w).out = { s.out with
      dispValid := true
      dispRoute := r
      dispType := s.fb.read 2
      dispSize := BitVec.ofNat 7 P.total
      dispPlOff := BitVec.ofNat 6 w.1
      dispPlLen := BitVec.ofNat 6 w.2
      filtReason := .none } := rfl
@[simp] theorem State.emitDispatch_crc (r : RouteCode) (P : PayloadLen) (w : Nat × Nat) : (s.emitDispatch r P w).crc = s.crc := rfl

/-! ## emitFilter -/

@[simp] theorem State.emitFilter_params (r : FiltReason) : (s.emitFilter r).params = s.params := rfl
@[simp] theorem State.emitFilter_fb (r : FiltReason) : (s.emitFilter r).fb = s.fb := rfl
@[simp] theorem State.emitFilter_pos (r : FiltReason) : (s.emitFilter r).pos = s.pos := rfl
@[simp] theorem State.emitFilter_tStart (r : FiltReason) : (s.emitFilter r).tStart = s.tStart := rfl
@[simp] theorem State.emitFilter_errCnt (r : FiltReason) : (s.emitFilter r).errCnt = s.errCnt := rfl
@[simp] theorem State.emitFilter_snap (r : FiltReason) : (s.emitFilter r).snap = s.snap := rfl
@[simp] theorem State.emitFilter_ready (r : FiltReason) : (s.emitFilter r).ready = s.ready := rfl
@[simp] theorem State.emitFilter_ch (r : FiltReason) : (s.emitFilter r).ch = s.ch := rfl
@[simp] theorem State.emitFilter_inputs (r : FiltReason) : (s.emitFilter r).inputs = s.inputs := rfl
@[simp] theorem State.emitFilter_hostClock (r : FiltReason) : (s.emitFilter r).hostClock = s.hostClock := rfl
@[simp] theorem State.emitFilter_out (r : FiltReason) : (s.emitFilter r).out = { s.out with
      dispValid := false
      dispRoute := .none
      dispType := 0
      dispSize := 0
      dispPlOff := 0
      dispPlLen := 0
      filtReason := r } := rfl
@[simp] theorem State.emitFilter_crc (r : FiltReason) : (s.emitFilter r).crc = s.crc := rfl

/-! ## emitPoll -/

@[simp] theorem State.emitPoll_params (st : PollStatus) : (s.emitPoll st).params = s.params := rfl
@[simp] theorem State.emitPoll_fb (st : PollStatus) : (s.emitPoll st).fb = s.fb := rfl
@[simp] theorem State.emitPoll_pos (st : PollStatus) : (s.emitPoll st).pos = s.pos := rfl
@[simp] theorem State.emitPoll_tStart (st : PollStatus) : (s.emitPoll st).tStart = s.tStart := rfl
@[simp] theorem State.emitPoll_errCnt (st : PollStatus) : (s.emitPoll st).errCnt = s.errCnt := rfl
@[simp] theorem State.emitPoll_snap (st : PollStatus) : (s.emitPoll st).snap = s.snap := rfl
@[simp] theorem State.emitPoll_ready (st : PollStatus) : (s.emitPoll st).ready = s.ready := rfl
@[simp] theorem State.emitPoll_ch (st : PollStatus) : (s.emitPoll st).ch = s.ch := rfl
@[simp] theorem State.emitPoll_inputs (st : PollStatus) : (s.emitPoll st).inputs = s.inputs := rfl
@[simp] theorem State.emitPoll_hostClock (st : PollStatus) : (s.emitPoll st).hostClock = s.hostClock := rfl
@[simp] theorem State.emitPoll_out (st : PollStatus) : (s.emitPoll st).out = { s.out with pollDone := true, pollStatus := st } := rfl
@[simp] theorem State.emitPoll_crc (st : PollStatus) : (s.emitPoll st).crc = s.crc := rfl

/-! ## emitChData -/

@[simp] theorem State.emitChData_params (v : ChVal) : (s.emitChData v).params = s.params := rfl
@[simp] theorem State.emitChData_fb (v : ChVal) : (s.emitChData v).fb = s.fb := rfl
@[simp] theorem State.emitChData_pos (v : ChVal) : (s.emitChData v).pos = s.pos := rfl
@[simp] theorem State.emitChData_tStart (v : ChVal) : (s.emitChData v).tStart = s.tStart := rfl
@[simp] theorem State.emitChData_errCnt (v : ChVal) : (s.emitChData v).errCnt = s.errCnt := rfl
@[simp] theorem State.emitChData_snap (v : ChVal) : (s.emitChData v).snap = s.snap := rfl
@[simp] theorem State.emitChData_ready (v : ChVal) : (s.emitChData v).ready = s.ready := rfl
@[simp] theorem State.emitChData_ch (v : ChVal) : (s.emitChData v).ch = s.ch := rfl
@[simp] theorem State.emitChData_inputs (v : ChVal) : (s.emitChData v).inputs = s.inputs := rfl
@[simp] theorem State.emitChData_hostClock (v : ChVal) : (s.emitChData v).hostClock = s.hostClock := rfl
@[simp] theorem State.emitChData_out (v : ChVal) : (s.emitChData v).out = { s.out with chData := v } := rfl
@[simp] theorem State.emitChData_crc (v : ChVal) : (s.emitChData v).crc = s.crc := rfl

/-! ## emitFbData -/

@[simp] theorem State.emitFbData_params (v : Byte) : (s.emitFbData v).params = s.params := rfl
@[simp] theorem State.emitFbData_fb (v : Byte) : (s.emitFbData v).fb = s.fb := rfl
@[simp] theorem State.emitFbData_pos (v : Byte) : (s.emitFbData v).pos = s.pos := rfl
@[simp] theorem State.emitFbData_tStart (v : Byte) : (s.emitFbData v).tStart = s.tStart := rfl
@[simp] theorem State.emitFbData_errCnt (v : Byte) : (s.emitFbData v).errCnt = s.errCnt := rfl
@[simp] theorem State.emitFbData_snap (v : Byte) : (s.emitFbData v).snap = s.snap := rfl
@[simp] theorem State.emitFbData_ready (v : Byte) : (s.emitFbData v).ready = s.ready := rfl
@[simp] theorem State.emitFbData_ch (v : Byte) : (s.emitFbData v).ch = s.ch := rfl
@[simp] theorem State.emitFbData_inputs (v : Byte) : (s.emitFbData v).inputs = s.inputs := rfl
@[simp] theorem State.emitFbData_hostClock (v : Byte) : (s.emitFbData v).hostClock = s.hostClock := rfl
@[simp] theorem State.emitFbData_out (v : Byte) : (s.emitFbData v).out = { s.out with fbRdData := v } := rfl
@[simp] theorem State.emitFbData_crc (v : Byte) : (s.emitFbData v).crc = s.crc := rfl

/-! ## emitResetIdle -/

@[simp] theorem State.emitResetIdle_params : (s.emitResetIdle).params = s.params := rfl
@[simp] theorem State.emitResetIdle_fb : (s.emitResetIdle).fb = s.fb := rfl
@[simp] theorem State.emitResetIdle_pos : (s.emitResetIdle).pos = s.pos := rfl
@[simp] theorem State.emitResetIdle_tStart : (s.emitResetIdle).tStart = s.tStart := rfl
@[simp] theorem State.emitResetIdle_errCnt : (s.emitResetIdle).errCnt = s.errCnt := rfl
@[simp] theorem State.emitResetIdle_snap : (s.emitResetIdle).snap = s.snap := rfl
@[simp] theorem State.emitResetIdle_ready : (s.emitResetIdle).ready = s.ready := rfl
@[simp] theorem State.emitResetIdle_ch : (s.emitResetIdle).ch = s.ch := rfl
@[simp] theorem State.emitResetIdle_inputs : (s.emitResetIdle).inputs = s.inputs := rfl
@[simp] theorem State.emitResetIdle_hostClock : (s.emitResetIdle).hostClock = s.hostClock := rfl
@[simp] theorem State.emitResetIdle_out : (s.emitResetIdle).out = { Outputs.idle with chData := s.out.chData, fbRdData := s.out.fbRdData } := rfl
@[simp] theorem State.emitResetIdle_crc : (s.emitResetIdle).crc = s.crc := rfl

/-! ## setPos -/

@[simp] theorem State.setPos_params (p : BufIdx) : (s.setPos p).params = s.params := rfl
@[simp] theorem State.setPos_fb (p : BufIdx) : (s.setPos p).fb = s.fb := rfl
@[simp] theorem State.setPos_pos (p : BufIdx) : (s.setPos p).pos = p := rfl
@[simp] theorem State.setPos_tStart (p : BufIdx) : (s.setPos p).tStart = s.tStart := rfl
@[simp] theorem State.setPos_errCnt (p : BufIdx) : (s.setPos p).errCnt = s.errCnt := rfl
@[simp] theorem State.setPos_snap (p : BufIdx) : (s.setPos p).snap = s.snap := rfl
@[simp] theorem State.setPos_ready (p : BufIdx) : (s.setPos p).ready = s.ready := rfl
@[simp] theorem State.setPos_ch (p : BufIdx) : (s.setPos p).ch = s.ch := rfl
@[simp] theorem State.setPos_inputs (p : BufIdx) : (s.setPos p).inputs = s.inputs := rfl
@[simp] theorem State.setPos_hostClock (p : BufIdx) : (s.setPos p).hostClock = s.hostClock := rfl
@[simp] theorem State.setPos_out (p : BufIdx) : (s.setPos p).out = s.out := rfl
@[simp] theorem State.setPos_crc (p : BufIdx) : (s.setPos p).crc = s.crc := rfl

/-! ## setTStart -/

@[simp] theorem State.setTStart_params (ts : Stamp) : (s.setTStart ts).params = s.params := rfl
@[simp] theorem State.setTStart_fb (ts : Stamp) : (s.setTStart ts).fb = s.fb := rfl
@[simp] theorem State.setTStart_pos (ts : Stamp) : (s.setTStart ts).pos = s.pos := rfl
@[simp] theorem State.setTStart_tStart (ts : Stamp) : (s.setTStart ts).tStart = ts := rfl
@[simp] theorem State.setTStart_errCnt (ts : Stamp) : (s.setTStart ts).errCnt = s.errCnt := rfl
@[simp] theorem State.setTStart_snap (ts : Stamp) : (s.setTStart ts).snap = s.snap := rfl
@[simp] theorem State.setTStart_ready (ts : Stamp) : (s.setTStart ts).ready = s.ready := rfl
@[simp] theorem State.setTStart_ch (ts : Stamp) : (s.setTStart ts).ch = s.ch := rfl
@[simp] theorem State.setTStart_inputs (ts : Stamp) : (s.setTStart ts).inputs = s.inputs := rfl
@[simp] theorem State.setTStart_hostClock (ts : Stamp) : (s.setTStart ts).hostClock = s.hostClock := rfl
@[simp] theorem State.setTStart_out (ts : Stamp) : (s.setTStart ts).out = s.out := rfl
@[simp] theorem State.setTStart_crc (ts : Stamp) : (s.setTStart ts).crc = s.crc := rfl

/-! ## setErrCnt -/

@[simp] theorem State.setErrCnt_params (e : BitVec 7) : (s.setErrCnt e).params = s.params := rfl
@[simp] theorem State.setErrCnt_fb (e : BitVec 7) : (s.setErrCnt e).fb = s.fb := rfl
@[simp] theorem State.setErrCnt_pos (e : BitVec 7) : (s.setErrCnt e).pos = s.pos := rfl
@[simp] theorem State.setErrCnt_tStart (e : BitVec 7) : (s.setErrCnt e).tStart = s.tStart := rfl
@[simp] theorem State.setErrCnt_errCnt (e : BitVec 7) : (s.setErrCnt e).errCnt = e := rfl
@[simp] theorem State.setErrCnt_snap (e : BitVec 7) : (s.setErrCnt e).snap = s.snap := rfl
@[simp] theorem State.setErrCnt_ready (e : BitVec 7) : (s.setErrCnt e).ready = s.ready := rfl
@[simp] theorem State.setErrCnt_ch (e : BitVec 7) : (s.setErrCnt e).ch = s.ch := rfl
@[simp] theorem State.setErrCnt_inputs (e : BitVec 7) : (s.setErrCnt e).inputs = s.inputs := rfl
@[simp] theorem State.setErrCnt_hostClock (e : BitVec 7) : (s.setErrCnt e).hostClock = s.hostClock := rfl
@[simp] theorem State.setErrCnt_out (e : BitVec 7) : (s.setErrCnt e).out = s.out := rfl
@[simp] theorem State.setErrCnt_crc (e : BitVec 7) : (s.setErrCnt e).crc = s.crc := rfl

/-! ## storeByte -/

@[simp] theorem State.storeByte_params (p : BufIdx) (b : Byte) : (s.storeByte p b).params = s.params := rfl
@[simp] theorem State.storeByte_fb (p : BufIdx) (b : Byte) : (s.storeByte p b).fb = s.fb.write p b := rfl
@[simp] theorem State.storeByte_pos (p : BufIdx) (b : Byte) : (s.storeByte p b).pos = s.pos := rfl
@[simp] theorem State.storeByte_tStart (p : BufIdx) (b : Byte) : (s.storeByte p b).tStart = s.tStart := rfl
@[simp] theorem State.storeByte_errCnt (p : BufIdx) (b : Byte) : (s.storeByte p b).errCnt = s.errCnt := rfl
@[simp] theorem State.storeByte_snap (p : BufIdx) (b : Byte) : (s.storeByte p b).snap = s.snap := rfl
@[simp] theorem State.storeByte_ready (p : BufIdx) (b : Byte) : (s.storeByte p b).ready = s.ready := rfl
@[simp] theorem State.storeByte_ch (p : BufIdx) (b : Byte) : (s.storeByte p b).ch = s.ch := rfl
@[simp] theorem State.storeByte_inputs (p : BufIdx) (b : Byte) : (s.storeByte p b).inputs = s.inputs := rfl
@[simp] theorem State.storeByte_hostClock (p : BufIdx) (b : Byte) : (s.storeByte p b).hostClock = s.hostClock := rfl
@[simp] theorem State.storeByte_out (p : BufIdx) (b : Byte) : (s.storeByte p b).out = s.out := rfl
@[simp] theorem State.storeByte_crc (p : BufIdx) (b : Byte) : (s.storeByte p b).crc = s.crc := rfl

/-! ## takeSnapshot -/

@[simp] theorem State.takeSnapshot_params : (s.takeSnapshot).params = s.params := rfl
@[simp] theorem State.takeSnapshot_fb : (s.takeSnapshot).fb = s.fb := rfl
@[simp] theorem State.takeSnapshot_pos : (s.takeSnapshot).pos = s.pos := rfl
@[simp] theorem State.takeSnapshot_tStart : (s.takeSnapshot).tStart = s.tStart := rfl
@[simp] theorem State.takeSnapshot_errCnt : (s.takeSnapshot).errCnt = s.errCnt := rfl
@[simp] theorem State.takeSnapshot_snap : (s.takeSnapshot).snap = s.fb := rfl
@[simp] theorem State.takeSnapshot_ready : (s.takeSnapshot).ready = s.ready := rfl
@[simp] theorem State.takeSnapshot_ch : (s.takeSnapshot).ch = s.ch := rfl
@[simp] theorem State.takeSnapshot_inputs : (s.takeSnapshot).inputs = s.inputs := rfl
@[simp] theorem State.takeSnapshot_hostClock : (s.takeSnapshot).hostClock = s.hostClock := rfl
@[simp] theorem State.takeSnapshot_out : (s.takeSnapshot).out = s.out := rfl
@[simp] theorem State.takeSnapshot_crc : (s.takeSnapshot).crc = s.crc := rfl

/-! ## setReady -/

@[simp] theorem State.setReady_params (r : Bool) : (s.setReady r).params = s.params := rfl
@[simp] theorem State.setReady_fb (r : Bool) : (s.setReady r).fb = s.fb := rfl
@[simp] theorem State.setReady_pos (r : Bool) : (s.setReady r).pos = s.pos := rfl
@[simp] theorem State.setReady_tStart (r : Bool) : (s.setReady r).tStart = s.tStart := rfl
@[simp] theorem State.setReady_errCnt (r : Bool) : (s.setReady r).errCnt = s.errCnt := rfl
@[simp] theorem State.setReady_snap (r : Bool) : (s.setReady r).snap = s.snap := rfl
@[simp] theorem State.setReady_ready (r : Bool) : (s.setReady r).ready = r := rfl
@[simp] theorem State.setReady_ch (r : Bool) : (s.setReady r).ch = s.ch := rfl
@[simp] theorem State.setReady_inputs (r : Bool) : (s.setReady r).inputs = s.inputs := rfl
@[simp] theorem State.setReady_hostClock (r : Bool) : (s.setReady r).hostClock = s.hostClock := rfl
@[simp] theorem State.setReady_out (r : Bool) : (s.setReady r).out = s.out := rfl
@[simp] theorem State.setReady_crc (r : Bool) : (s.setReady r).crc = s.crc := rfl

/-! ## setCh -/

@[simp] theorem State.setCh_params (v : Vector ChVal 16) : (s.setCh v).params = s.params := rfl
@[simp] theorem State.setCh_fb (v : Vector ChVal 16) : (s.setCh v).fb = s.fb := rfl
@[simp] theorem State.setCh_pos (v : Vector ChVal 16) : (s.setCh v).pos = s.pos := rfl
@[simp] theorem State.setCh_tStart (v : Vector ChVal 16) : (s.setCh v).tStart = s.tStart := rfl
@[simp] theorem State.setCh_errCnt (v : Vector ChVal 16) : (s.setCh v).errCnt = s.errCnt := rfl
@[simp] theorem State.setCh_snap (v : Vector ChVal 16) : (s.setCh v).snap = s.snap := rfl
@[simp] theorem State.setCh_ready (v : Vector ChVal 16) : (s.setCh v).ready = s.ready := rfl
@[simp] theorem State.setCh_ch (v : Vector ChVal 16) : (s.setCh v).ch = v := rfl
@[simp] theorem State.setCh_inputs (v : Vector ChVal 16) : (s.setCh v).inputs = s.inputs := rfl
@[simp] theorem State.setCh_hostClock (v : Vector ChVal 16) : (s.setCh v).hostClock = s.hostClock := rfl
@[simp] theorem State.setCh_out (v : Vector ChVal 16) : (s.setCh v).out = s.out := rfl
@[simp] theorem State.setCh_crc (v : Vector ChVal 16) : (s.setCh v).crc = s.crc := rfl

/-! ## clearAll -/

@[simp] theorem State.clearAll_params (d : ChVal) : (s.clearAll d).params = s.params := rfl
@[simp] theorem State.clearAll_fb (d : ChVal) : (s.clearAll d).fb = [] := rfl
@[simp] theorem State.clearAll_pos (d : ChVal) : (s.clearAll d).pos = 0 := rfl
@[simp] theorem State.clearAll_tStart (d : ChVal) : (s.clearAll d).tStart = 0 := rfl
@[simp] theorem State.clearAll_errCnt (d : ChVal) : (s.clearAll d).errCnt = 0 := rfl
@[simp] theorem State.clearAll_snap (d : ChVal) : (s.clearAll d).snap = [] := rfl
@[simp] theorem State.clearAll_ready (d : ChVal) : (s.clearAll d).ready = false := rfl
@[simp] theorem State.clearAll_ch (d : ChVal) : (s.clearAll d).ch = Vector.replicate 16 d := rfl
@[simp] theorem State.clearAll_inputs (d : ChVal) : (s.clearAll d).inputs = s.inputs := rfl
@[simp] theorem State.clearAll_hostClock (d : ChVal) : (s.clearAll d).hostClock = s.hostClock := rfl
@[simp] theorem State.clearAll_out (d : ChVal) : (s.clearAll d).out = s.out := rfl
@[simp] theorem State.clearAll_crc (d : ChVal) : (s.clearAll d).crc = s.crc := rfl

/-! ## latchFrameCrc -/

@[simp] theorem State.latchFrameCrc_params (c : Byte) (ok : Bool) : (s.latchFrameCrc c ok).params = s.params := rfl
@[simp] theorem State.latchFrameCrc_fb (c : Byte) (ok : Bool) : (s.latchFrameCrc c ok).fb = s.fb := rfl
@[simp] theorem State.latchFrameCrc_pos (c : Byte) (ok : Bool) : (s.latchFrameCrc c ok).pos = s.pos := rfl
@[simp] theorem State.latchFrameCrc_tStart (c : Byte) (ok : Bool) : (s.latchFrameCrc c ok).tStart = s.tStart := rfl
@[simp] theorem State.latchFrameCrc_errCnt (c : Byte) (ok : Bool) : (s.latchFrameCrc c ok).errCnt = s.errCnt := rfl
@[simp] theorem State.latchFrameCrc_snap (c : Byte) (ok : Bool) : (s.latchFrameCrc c ok).snap = s.snap := rfl
@[simp] theorem State.latchFrameCrc_ready (c : Byte) (ok : Bool) : (s.latchFrameCrc c ok).ready = s.ready := rfl
@[simp] theorem State.latchFrameCrc_ch (c : Byte) (ok : Bool) : (s.latchFrameCrc c ok).ch = s.ch := rfl
@[simp] theorem State.latchFrameCrc_inputs (c : Byte) (ok : Bool) : (s.latchFrameCrc c ok).inputs = s.inputs := rfl
@[simp] theorem State.latchFrameCrc_hostClock (c : Byte) (ok : Bool) : (s.latchFrameCrc c ok).hostClock = s.hostClock := rfl
@[simp] theorem State.latchFrameCrc_out (c : Byte) (ok : Bool) : (s.latchFrameCrc c ok).out = s.out := rfl
@[simp] theorem State.latchFrameCrc_crc (c : Byte) (ok : Bool) : (s.latchFrameCrc c ok).crc = { s.crc with frameCrc := c, frameOk := ok } := rfl

/-! ## latchCmdCrc -/

@[simp] theorem State.latchCmdCrc_params (c : Byte) (ok : Bool) : (s.latchCmdCrc c ok).params = s.params := rfl
@[simp] theorem State.latchCmdCrc_fb (c : Byte) (ok : Bool) : (s.latchCmdCrc c ok).fb = s.fb := rfl
@[simp] theorem State.latchCmdCrc_pos (c : Byte) (ok : Bool) : (s.latchCmdCrc c ok).pos = s.pos := rfl
@[simp] theorem State.latchCmdCrc_tStart (c : Byte) (ok : Bool) : (s.latchCmdCrc c ok).tStart = s.tStart := rfl
@[simp] theorem State.latchCmdCrc_errCnt (c : Byte) (ok : Bool) : (s.latchCmdCrc c ok).errCnt = s.errCnt := rfl
@[simp] theorem State.latchCmdCrc_snap (c : Byte) (ok : Bool) : (s.latchCmdCrc c ok).snap = s.snap := rfl
@[simp] theorem State.latchCmdCrc_ready (c : Byte) (ok : Bool) : (s.latchCmdCrc c ok).ready = s.ready := rfl
@[simp] theorem State.latchCmdCrc_ch (c : Byte) (ok : Bool) : (s.latchCmdCrc c ok).ch = s.ch := rfl
@[simp] theorem State.latchCmdCrc_inputs (c : Byte) (ok : Bool) : (s.latchCmdCrc c ok).inputs = s.inputs := rfl
@[simp] theorem State.latchCmdCrc_hostClock (c : Byte) (ok : Bool) : (s.latchCmdCrc c ok).hostClock = s.hostClock := rfl
@[simp] theorem State.latchCmdCrc_out (c : Byte) (ok : Bool) : (s.latchCmdCrc c ok).out = s.out := rfl
@[simp] theorem State.latchCmdCrc_crc (c : Byte) (ok : Bool) : (s.latchCmdCrc c ok).crc = { s.crc with cmdCrc := c, cmdOk := ok } := rfl

/-! ## beginStep -/

@[simp] theorem State.beginStep_params : s.beginStep.params = s.params := by
  unfold State.beginStep; split <;> rfl
@[simp] theorem State.beginStep_fb : s.beginStep.fb = s.fb := by
  unfold State.beginStep; split <;> rfl
@[simp] theorem State.beginStep_pos : s.beginStep.pos = s.pos := by
  unfold State.beginStep; split <;> rfl
@[simp] theorem State.beginStep_tStart : s.beginStep.tStart = s.tStart := by
  unfold State.beginStep; split <;> rfl
@[simp] theorem State.beginStep_errCnt : s.beginStep.errCnt = s.errCnt := by
  unfold State.beginStep; split <;> rfl
@[simp] theorem State.beginStep_snap : s.beginStep.snap = s.snap := by
  unfold State.beginStep; split <;> rfl
@[simp] theorem State.beginStep_ready : s.beginStep.ready = s.ready := by
  unfold State.beginStep; split <;> rfl
@[simp] theorem State.beginStep_ch : s.beginStep.ch = s.ch := by
  unfold State.beginStep; split <;> rfl
@[simp] theorem State.beginStep_out : s.beginStep.out = Outputs.idle := by
  unfold State.beginStep; split <;> rfl
@[simp] theorem State.beginStep_crc : s.beginStep.crc = CrcWires.idle := by
  unfold State.beginStep; split <;> rfl

/-- A step consumes the pattern it samples. -/
theorem State.beginStep_inputs : s.beginStep.inputs = s.inputs.tail := by
  unfold State.beginStep; split <;> simp_all

/-- The input pattern of a step whose queue is not empty. -/
@[simp] theorem State.currentInput_cons (x : Inputs) (xs : List Inputs) (h : s.inputs = x :: xs) :
    s.currentInput = x := by
  simp [State.currentInput, h]

/-! ## stampStart -/

@[simp] theorem State.stampStart_params (ts : Stamp) : (s.stampStart ts).params = s.params := by
  unfold State.stampStart; split <;> rfl
@[simp] theorem State.stampStart_fb (ts : Stamp) : (s.stampStart ts).fb = s.fb := by
  unfold State.stampStart; split <;> rfl
@[simp] theorem State.stampStart_pos (ts : Stamp) : (s.stampStart ts).pos = s.pos := by
  unfold State.stampStart; split <;> rfl
@[simp] theorem State.stampStart_errCnt (ts : Stamp) : (s.stampStart ts).errCnt = s.errCnt := by
  unfold State.stampStart; split <;> rfl
@[simp] theorem State.stampStart_snap (ts : Stamp) : (s.stampStart ts).snap = s.snap := by
  unfold State.stampStart; split <;> rfl
@[simp] theorem State.stampStart_ready (ts : Stamp) : (s.stampStart ts).ready = s.ready := by
  unfold State.stampStart; split <;> rfl
@[simp] theorem State.stampStart_ch (ts : Stamp) : (s.stampStart ts).ch = s.ch := by
  unfold State.stampStart; split <;> rfl
@[simp] theorem State.stampStart_inputs (ts : Stamp) : (s.stampStart ts).inputs = s.inputs := by
  unfold State.stampStart; split <;> rfl
@[simp] theorem State.stampStart_hostClock (ts : Stamp) : (s.stampStart ts).hostClock = s.hostClock := by
  unfold State.stampStart; split <;> rfl
@[simp] theorem State.stampStart_out (ts : Stamp) : (s.stampStart ts).out = s.out := by
  unfold State.stampStart; split <;> rfl
@[simp] theorem State.stampStart_crc (ts : Stamp) : (s.stampStart ts).crc = s.crc := by
  unfold State.stampStart; split <;> rfl
@[simp] theorem State.stampStart_tStart (ts : Stamp) :
    (s.stampStart ts).tStart = if s.workingPos ts = 0 then ts else s.tStart := by
  unfold State.stampStart; split <;> rfl

/-! ## countFailure, clearFailures: only the counter and `fallback_req` -/

@[simp] theorem State.countFailure_params : s.countFailure.params = s.params := by
  unfold State.countFailure; dsimp only; split <;> (try split) <;> rfl
@[simp] theorem State.countFailure_fb : s.countFailure.fb = s.fb := by
  unfold State.countFailure; dsimp only; split <;> (try split) <;> rfl
@[simp] theorem State.countFailure_pos : s.countFailure.pos = s.pos := by
  unfold State.countFailure; dsimp only; split <;> (try split) <;> rfl
@[simp] theorem State.countFailure_tStart : s.countFailure.tStart = s.tStart := by
  unfold State.countFailure; dsimp only; split <;> (try split) <;> rfl
@[simp] theorem State.countFailure_snap : s.countFailure.snap = s.snap := by
  unfold State.countFailure; dsimp only; split <;> (try split) <;> rfl
@[simp] theorem State.countFailure_ready : s.countFailure.ready = s.ready := by
  unfold State.countFailure; dsimp only; split <;> (try split) <;> rfl
@[simp] theorem State.countFailure_ch : s.countFailure.ch = s.ch := by
  unfold State.countFailure; dsimp only; split <;> (try split) <;> rfl
@[simp] theorem State.countFailure_inputs : s.countFailure.inputs = s.inputs := by
  unfold State.countFailure; dsimp only; split <;> (try split) <;> rfl
@[simp] theorem State.countFailure_hostClock : s.countFailure.hostClock = s.hostClock := by
  unfold State.countFailure; dsimp only; split <;> (try split) <;> rfl
@[simp] theorem State.countFailure_crc : s.countFailure.crc = s.crc := by
  unfold State.countFailure; dsimp only; split <;> (try split) <;> rfl
@[simp] theorem State.clearFailures_params : s.clearFailures.params = s.params := by
  unfold State.clearFailures; split <;> rfl
@[simp] theorem State.clearFailures_fb : s.clearFailures.fb = s.fb := by
  unfold State.clearFailures; split <;> rfl
@[simp] theorem State.clearFailures_pos : s.clearFailures.pos = s.pos := by
  unfold State.clearFailures; split <;> rfl
@[simp] theorem State.clearFailures_tStart : s.clearFailures.tStart = s.tStart := by
  unfold State.clearFailures; split <;> rfl
@[simp] theorem State.clearFailures_snap : s.clearFailures.snap = s.snap := by
  unfold State.clearFailures; split <;> rfl
@[simp] theorem State.clearFailures_ready : s.clearFailures.ready = s.ready := by
  unfold State.clearFailures; split <;> rfl
@[simp] theorem State.clearFailures_ch : s.clearFailures.ch = s.ch := by
  unfold State.clearFailures; split <;> rfl
@[simp] theorem State.clearFailures_inputs : s.clearFailures.inputs = s.inputs := by
  unfold State.clearFailures; split <;> rfl
@[simp] theorem State.clearFailures_hostClock : s.clearFailures.hostClock = s.hostClock := by
  unfold State.clearFailures; split <;> rfl
@[simp] theorem State.clearFailures_out : s.clearFailures.out = s.out := by
  unfold State.clearFailures; split <;> rfl
@[simp] theorem State.clearFailures_crc : s.clearFailures.crc = s.crc := by
  unfold State.clearFailures; split <;> rfl
@[simp] theorem State.clearFailures_errCnt :
    s.clearFailures.errCnt = if s.params.v3 then 0 else s.errCnt := by
  unfold State.clearFailures; split <;> rfl

/-! ## evalFrameCrc, evalCmdCrc: only the checksum wires -/

@[simp] theorem State.evalFrameCrc_params (P : PayloadLen) : (s.evalFrameCrc P).params = s.params := rfl
@[simp] theorem State.evalFrameCrc_fb (P : PayloadLen) : (s.evalFrameCrc P).fb = s.fb := rfl
@[simp] theorem State.evalFrameCrc_pos (P : PayloadLen) : (s.evalFrameCrc P).pos = s.pos := rfl
@[simp] theorem State.evalFrameCrc_tStart (P : PayloadLen) : (s.evalFrameCrc P).tStart = s.tStart := rfl
@[simp] theorem State.evalFrameCrc_errCnt (P : PayloadLen) : (s.evalFrameCrc P).errCnt = s.errCnt := rfl
@[simp] theorem State.evalFrameCrc_snap (P : PayloadLen) : (s.evalFrameCrc P).snap = s.snap := rfl
@[simp] theorem State.evalFrameCrc_ready (P : PayloadLen) : (s.evalFrameCrc P).ready = s.ready := rfl
@[simp] theorem State.evalFrameCrc_ch (P : PayloadLen) : (s.evalFrameCrc P).ch = s.ch := rfl
@[simp] theorem State.evalFrameCrc_inputs (P : PayloadLen) : (s.evalFrameCrc P).inputs = s.inputs := rfl
@[simp] theorem State.evalFrameCrc_hostClock (P : PayloadLen) : (s.evalFrameCrc P).hostClock = s.hostClock := rfl
@[simp] theorem State.evalFrameCrc_out (P : PayloadLen) : (s.evalFrameCrc P).out = s.out := rfl
@[simp] theorem State.evalCmdCrc_params (P : PayloadLen) : (s.evalCmdCrc P).params = s.params := rfl
@[simp] theorem State.evalCmdCrc_fb (P : PayloadLen) : (s.evalCmdCrc P).fb = s.fb := rfl
@[simp] theorem State.evalCmdCrc_pos (P : PayloadLen) : (s.evalCmdCrc P).pos = s.pos := rfl
@[simp] theorem State.evalCmdCrc_tStart (P : PayloadLen) : (s.evalCmdCrc P).tStart = s.tStart := rfl
@[simp] theorem State.evalCmdCrc_errCnt (P : PayloadLen) : (s.evalCmdCrc P).errCnt = s.errCnt := rfl
@[simp] theorem State.evalCmdCrc_snap (P : PayloadLen) : (s.evalCmdCrc P).snap = s.snap := rfl
@[simp] theorem State.evalCmdCrc_ready (P : PayloadLen) : (s.evalCmdCrc P).ready = s.ready := rfl
@[simp] theorem State.evalCmdCrc_ch (P : PayloadLen) : (s.evalCmdCrc P).ch = s.ch := rfl
@[simp] theorem State.evalCmdCrc_inputs (P : PayloadLen) : (s.evalCmdCrc P).inputs = s.inputs := rfl
@[simp] theorem State.evalCmdCrc_hostClock (P : PayloadLen) : (s.evalCmdCrc P).hostClock = s.hostClock := rfl
@[simp] theorem State.evalCmdCrc_out (P : PayloadLen) : (s.evalCmdCrc P).out = s.out := rfl

end Sys2Proof.Machine
end

