-- ==== Sys2Proof/Laws/Ops.lean ====
section
/-! SUPPORT. For each shared operation, once, everything it can do; and the operation list of a step. -/

namespace Sys2Proof.Machine

/-! ## Sequencing -/

@[simp] theorem andThen_next (s : State) (f : State → Host.Outcome State Fault Refusal) :
    andThen (.next s) f = f s := rfl

@[simp] theorem runOps_nil (run : Instr → State → Host.Outcome State Fault Refusal) (s : State) :
    runOps run [] s = .next s := rfl

@[simp] theorem runOps_cons (run : Instr → State → Host.Outcome State Fault Refusal) (i : Instr) (is : List Instr)
    (s : State) : runOps run (i :: is) s = andThen (run i s) (runOps run is) := rfl

/-- The strobed operations, by the three strobes (R77). -/
theorem strobes_eq (x : Inputs) :
    strobes x =
      if x.rst then [.reset x.cfgChDefault]
      else match x.poll, x.byteValid with
        | true, true => [.poll, .byteIn x.byteIn x.tsIn x.cfgRssiSrcCrsf]
        | true, false => [.poll]
        | false, true => [.byteIn x.byteIn x.tsIn x.cfgRssiSrcCrsf]
        | false, false => [.nop] := by
  obtain ⟨rst, bv, b, ts, pl, k, a, r, d⟩ := x
  cases rst <;> cases bv <;> cases pl <;> simp [strobes, Inputs.control]

/-- The state of a step after its two read ports. -/
def State.afterReads (s : State) (x : Inputs) : State :=
  (s.beginStep.emitChData (s.ch[x.chIdx.toNat]'x.chIdx.isLt)).emitFbData (s.fb.read x.fbRdAddr.toNat)

/-- A step: the read ports show the start-of-step state, then the strobed operations run. -/
theorem step_eq (s : State) :
    step s = runOps exec (strobes s.currentInput) (s.afterReads s.currentInput) := by
  simp [step, State.selectedOps, decodePorts, readPorts, exec, execReadCh, execFbRead, State.afterReads]

/-! ## The counter -/

/-- `count_failure()` in its three cases (R129, R130, R131). -/
theorem State.countFailure_cases (s : State) :
    (s.params.v3 = false ∧ s.countFailure = s) ∨
    (s.params.v3 = true ∧ 99 ≤ s.errCnt.toNat ∧ s.countFailure = s.emitFallback.setErrCnt 0) ∨
    (s.params.v3 = true ∧ s.errCnt.toNat < 99 ∧
      s.countFailure = s.setErrCnt (BitVec.ofNat 7 (s.errCnt.toNat + 1))) := by
  unfold State.countFailure
  cases hv : s.params.v3 with
  | false => simp
  | true =>
    by_cases h : 99 ≤ s.errCnt.toNat
    · have : min (s.errCnt.toNat + 1) 100 = 100 := by omega
      simp [Config.errThreshold, h]
    · have h1 : min (s.errCnt.toNat + 1) 100 = s.errCnt.toNat + 1 := by omega
      have h2 : s.errCnt.toNat ≠ 99 := by omega
      exact .inr (.inr ⟨rfl, by omega, by simp [Config.errThreshold, h1, h2]⟩)

/-- What `count_failure()` leaves of the outputs: at most `fallback_req` changes. -/
theorem State.countFailure_out (s : State) :
    s.countFailure.out = { s.out with fallbackReq := s.countFailure.out.fallbackReq } := by
  rcases s.countFailure_cases with ⟨_, h⟩ | ⟨_, _, h⟩ | ⟨_, _, h⟩ <;> rw [h] <;> rfl

@[simp] theorem State.countFailure_rxEvent (s : State) : s.countFailure.out.rxEvent = s.out.rxEvent := by
  rw [s.countFailure_out]
@[simp] theorem State.countFailure_dispValid (s : State) : s.countFailure.out.dispValid = s.out.dispValid := by
  rw [s.countFailure_out]
@[simp] theorem State.countFailure_dispRoute (s : State) : s.countFailure.out.dispRoute = s.out.dispRoute := by
  rw [s.countFailure_out]
@[simp] theorem State.countFailure_dispType (s : State) : s.countFailure.out.dispType = s.out.dispType := by
  rw [s.countFailure_out]
@[simp] theorem State.countFailure_dispSize (s : State) : s.countFailure.out.dispSize = s.out.dispSize := by
  rw [s.countFailure_out]
@[simp] theorem State.countFailure_dispPlOff (s : State) : s.countFailure.out.dispPlOff = s.out.dispPlOff := by
  rw [s.countFailure_out]
@[simp] theorem State.countFailure_dispPlLen (s : State) : s.countFailure.out.dispPlLen = s.out.dispPlLen := by
  rw [s.countFailure_out]
@[simp] theorem State.countFailure_filtReason (s : State) : s.countFailure.out.filtReason = s.out.filtReason := by
  rw [s.countFailure_out]
@[simp] theorem State.countFailure_pollDone (s : State) : s.countFailure.out.pollDone = s.out.pollDone := by
  rw [s.countFailure_out]
@[simp] theorem State.countFailure_pollStatus (s : State) : s.countFailure.out.pollStatus = s.out.pollStatus := by
  rw [s.countFailure_out]
@[simp] theorem State.countFailure_chData (s : State) : s.countFailure.out.chData = s.out.chData := by
  rw [s.countFailure_out]
@[simp] theorem State.countFailure_fbRdData (s : State) : s.countFailure.out.fbRdData = s.out.fbRdData := by
  rw [s.countFailure_out]
@[simp] theorem State.countFailure_numChannels (s : State) : s.countFailure.out.numChannels = s.out.numChannels := by
  rw [s.countFailure_out]
@[simp] theorem State.countFailure_refreshUs (s : State) : s.countFailure.out.refreshUs = s.out.refreshUs := by
  rw [s.countFailure_out]

/-! ## Frame size -/

/-- The bounds check answers a payload size exactly for a size of 4 to 64 (R124). -/
theorem payloadLenOf_eq_some {S : Nat} {P : PayloadLen} : payloadLenOf S = some P ↔ S = P.total := by
  unfold payloadLenOf PayloadLen.total Config.frameMin Config.frameMax
  constructor
  · intro h
    split at h
    · obtain rfl := Option.some.inj h; show S = S - 4 + 4; omega
    · cases h
  · intro h
    have := P.isLt
    rw [dif_pos ⟨by omega, by omega⟩]
    congr 1
    apply Fin.ext
    show S - 4 = P.val
    omega

theorem payloadLenOf_eq_none {S : Nat} : payloadLenOf S = none ↔ S < 4 ∨ 64 < S := by
  unfold payloadLenOf Config.frameMin Config.frameMax
  constructor
  · intro h
    split at h
    · cases h
    · omega
  · intro h
    rw [dif_neg (by omega)]

theorem PayloadLen.total_bounds (P : PayloadLen) : 4 ≤ P.total ∧ P.total ≤ 64 := by
  have := P.isLt; unfold PayloadLen.total; omega

/-! ## The terms of Safety.lean -/

/-- The machine's working cursor is the one of R121. -/
theorem State.workingPos_eq (s : State) (ts : Stamp) : s.workingPos ts = cursorFor s ts := by
  unfold State.workingPos State.timedOut State.elapsed cursorFor Config.resyncUs
  by_cases h : 1100 < (ts - s.tStart).toNat
  · rw [if_pos (by simpa using h), if_pos h]
  · rw [if_neg (by simpa using h), if_neg h]

/-- The machine's frame size is the one of R123. -/
theorem frameSizeAt_eq (s : State) (p : BufIdx) : frameSizeAt s.fb p = sizeFor s p := rfl

/-- A failure counted by the machine is one counted as R129 to R131 say. -/
theorem State.countFailure_counted (s : State) : CountedFailure s s.countFailure := by
  unfold CountedFailure
  rcases s.countFailure_cases with ⟨hv, h⟩ | ⟨hv, he, h⟩ | ⟨hv, he, h⟩
  · rw [h]; simp [hv]
  · rw [h, hv, if_pos rfl, if_pos (by omega)]; exact ⟨rfl, rfl⟩
  · rw [h, hv, if_pos rfl, if_neg (by omega)]
    refine ⟨?_, rfl⟩
    rw [State.setErrCnt_errCnt, BitVec.toNat_ofNat]; omega

/-- `emitDispatch` drives the outputs of a routed frame (R163). -/
theorem State.emitDispatch_routed (s : State) (r : RouteCode) (P : PayloadLen) (w : Nat × Nat) :
    s.emitDispatch r P w = { s with out := routedOut s.out r (s.fb.read 2) P.total w.1 w.2 } := rfl

/-- `emitFilter` drives the outputs of a filtered frame (R163, R167). -/
theorem State.emitFilter_filtered (s : State) (r : FiltReason) :
    s.emitFilter r = { s with out := filteredOut s.out r } := rfl

/-! ## The dispatcher -/

/-- DISPATCH runs the operation that the type byte decodes to. -/
theorem dispatch_eq_exec (P : PayloadLen) (r : Bool) (s : State) :
    dispatch P r s = exec (decodeType s.params (s.fb.read 2) P r) s := by
  unfold dispatch decodeType
  cases decodeKind s.params (s.fb.read 2) <;> rfl

/-- What DISPATCH can do: it ends in a next state; the cursor, the buffer, the timestamp, the counter and the channels stay;
the snapshot and the latch stay, or are written together for an RC-channel frame of this device (R150, R152, R153). -/
theorem dispatch_spec (P : PayloadLen) (r : Bool) (s : State) :
    ∃ t, dispatch P r s = .next t ∧
      t.params = s.params ∧ t.fb = s.fb ∧ t.pos = s.pos ∧ t.tStart = s.tStart ∧ t.errCnt = s.errCnt ∧ t.ch = s.ch ∧
      t.inputs = s.inputs ∧ t.hostClock = s.hostClock ∧
      t.out.rxEvent = s.out.rxEvent ∧ t.out.fallbackReq = s.out.fallbackReq ∧ t.out.pollDone = s.out.pollDone ∧
      t.out.pollStatus = s.out.pollStatus ∧ t.out.chData = s.out.chData ∧ t.out.fbRdData = s.out.fbRdData ∧
      t.out.numChannels = s.out.numChannels ∧ t.out.refreshUs = s.out.refreshUs ∧
      ((t.snap = s.snap ∧ t.ready = s.ready ∧ t.out.dispRoute ≠ .rcFixed ∧ t.out.dispRoute ≠ .rcSubset) ∨
       (t.snap = s.fb ∧ t.ready = true ∧ s.fb.read 0 = s.params.addrFc ∧
         ((s.fb.read 2 = s.params.typeRc ∧ t.out.dispRoute = .rcFixed) ∨
          (s.params.v3 = true ∧ s.fb.read 2 = s.params.typeSubset ∧ t.out.dispRoute = .rcSubset)))) ∧
      ((t.out.dispValid = true ∧ t.out.filtReason = .none ∧ t.out.dispRoute ≠ .none) ∨
       (t.out.dispValid = false ∧ t.out.filtReason ≠ .none ∧ t.out.dispRoute = .none)) := by
  unfold dispatch
  generalize hk : decodeKind s.params (s.fb.read 2) = k
  cases k <;> refine ⟨_, rfl, ?_⟩ <;> simp only [gatedBy, filterFrame, acceptRc, addressedHere, commandChecked]
  case rcFixed =>
    have ht : s.fb.read 2 = s.params.typeRc := by
      unfold decodeKind at hk; split at hk
      · assumption
      · exfalso; revert hk; repeat' split
        all_goals simp
    by_cases ha : s.fb.read 0 = s.params.addrFc <;> simp [ha, ht]
  case rcSubset =>
    have ht : s.params.v3 = true ∧ s.fb.read 2 = s.params.typeSubset := by
      unfold decodeKind at hk; split at hk
      · cases hk
      · split at hk
        · rename_i h; simpa using h
        · exfalso; revert hk; repeat' split
          all_goals simp
    by_cases ha : s.fb.read 0 = s.params.addrFc <;> simp [ha, ht]
  case linkStatsTx =>
    cases s.params.v3 <;> by_cases ha : s.fb.read 0 = s.params.addrFc <;> simp [ha]
  all_goals repeat' split
  all_goals simp

/-! ## BYTE_IN -/

/-- The four ways BYTE_IN ends (R120, R212): framing error, stored, frame valid and dispatched, CRC error. -/
theorem execByteIn_cases (b : Byte) (ts : Stamp) (r : Bool) (s : State) :
    ((frameSizeAt s.fb (s.workingPos ts) < 4 ∨ 64 < frameSizeAt s.fb (s.workingPos ts)) ∧
      execByteIn b ts r s = .next (framingError (s.stampStart ts))) ∨
    ∃ P : PayloadLen, frameSizeAt s.fb (s.workingPos ts) = P.total ∧
      (((s.workingPos ts).toNat + 1 < P.total ∧
        execByteIn b ts r s =
          .next (advance (s.workingPos ts) (s.resynced ts) ((s.stampStart ts).storeByte (s.workingPos ts) b))) ∨
       (P.total ≤ (s.workingPos ts).toNat + 1 ∧
        ∃ u : State, u = (((s.stampStart ts).storeByte (s.workingPos ts) b).setPos 0).evalFrameCrc P ∧
          ((u.crc.frameOk = true ∧ execByteIn b ts r s = dispatch P r (frameValid u)) ∨
           (u.crc.frameOk = false ∧ execByteIn b ts r s = .next (crcError u))))) := by
  cases hP : payloadLenOf (frameSizeAt s.fb (s.workingPos ts)) with
  | none => exact .inl ⟨payloadLenOf_eq_none.1 hP, by simp [execByteIn, hP]⟩
  | some P =>
    refine .inr ⟨P, payloadLenOf_eq_some.1 hP, ?_⟩
    by_cases h : (s.workingPos ts).toNat + 1 < P.total
    · exact .inl ⟨h, by simp [execByteIn, hP, h]⟩
    · refine .inr ⟨by omega, _, rfl, ?_⟩
      cases hok : ((((s.stampStart ts).storeByte (s.workingPos ts) b).setPos 0).evalFrameCrc P).crc.frameOk with
      | true => exact .inl ⟨rfl, by simp only [execByteIn, hP, h, completeFrame, hok, if_false, if_true]⟩
      | false =>
        exact .inr ⟨rfl, by simp only [execByteIn, hP, h, completeFrame, hok, if_false, Bool.false_eq_true]⟩

/-! ## POLL -/

/-- The two ways POLL ends (R180). -/
theorem execPoll_cases (s : State) :
    (s.ready = false ∧ execPoll s = .next (s.emitPoll .pending)) ∨
    (s.ready = true ∧ execPoll s = .next (((s.emitPoll .complete).setReady false).setCh (decodeSnapshot s))) := by
  unfold execPoll
  cases s.ready <;> simp

/-- A fixed decode, channel by channel (R183). -/
@[simp] theorem fixedDecode_getElem (m : Memory) (i : Nat) (h : i < 16) :
    (fixedDecode m)[i] = field11 m (11 * i) := by
  simp [fixedDecode]

/-- A subset decode, channel by channel (R186, R187). -/
@[simp] theorem subsetDecode_getElem (m : Memory) (ch : Vector ChVal 16) (i : Nat) (h : i < 16) :
    (subsetDecode m ch)[i] =
      if subsetStart m ≤ i ∧ i < subsetStart m + subsetCount m then field11 m (5 + 11 * (i - subsetStart m))
      else ch[i] := by
  simp [subsetDecode]

/-! ## CRC-8 -/

@[simp] theorem crc8_nil (poly : Byte) : crc8 poly [] = 0 := rfl

/-- One more byte at the end (R100). -/
theorem crc8_concat (poly : Byte) (xs : List Byte) (b : Byte) :
    crc8 poly (xs ++ [b]) = crc8Byte poly (crc8 poly xs) b := by
  simp [crc8, List.foldl_append]

end Sys2Proof.Machine
end

