-- ==== Sys2Proof/Laws/Exec.lean ====
section
/-! SUPPORT. The arms of exec, so that no proof unfolds its match; the step in its shapes. -/

namespace Sys2Proof.Machine

variable (s : State) (P : PayloadLen)

@[simp] theorem exec_reset (d : ChVal) : exec (.reset d) s = execReset d s := rfl
@[simp] theorem exec_byteIn (b : Byte) (ts : Stamp) (r : Bool) : exec (.byteIn b ts r) s = execByteIn b ts r s := rfl
@[simp] theorem exec_poll : exec .poll s = execPoll s := rfl
@[simp] theorem exec_nop : exec .nop s = execNop s := rfl
@[simp] theorem exec_readCh (k : ChIdx) : exec (.readCh k) s = execReadCh k s := rfl
@[simp] theorem exec_fbRead (a : BufIdx) : exec (.fbRead a) s = execFbRead a s := rfl
@[simp] theorem exec_rcFixed : exec (.rcFixed P) s = execRcFixed P s := rfl
@[simp] theorem exec_rcSubset : exec (.rcSubset P) s = execRcSubset P s := rfl
@[simp] theorem exec_mspReq : exec (.mspReq P) s = execMspReq P s := rfl
@[simp] theorem exec_mspWrite : exec (.mspWrite P) s = execMspWrite P s := rfl
@[simp] theorem exec_devicePing : exec (.devicePing P) s = execDevicePing P s := rfl
@[simp] theorem exec_displayport : exec (.displayport P) s = execDisplayport P s := rfl
@[simp] theorem exec_linkStats (r : Bool) : exec (.linkStats P r) s = execLinkStats P r s := rfl
@[simp] theorem exec_linkStatsRx : exec (.linkStatsRx P) s = execLinkStatsRx P s := rfl
@[simp] theorem exec_linkStatsTx : exec (.linkStatsTx P) s = execLinkStatsTx P s := rfl
@[simp] theorem exec_command : exec (.command P) s = execCommand P s := rfl
@[simp] theorem exec_unknownType (t : Byte) : exec (.unknownType t) s = execUnknownType t s := rfl
@[simp] theorem exec_frameCrc : exec (.frameCrc P) s = execFrameCrc P s := rfl
@[simp] theorem exec_cmdCrc : exec (.cmdCrc P) s = execCmdCrc P s := rfl

/-- The shapes of a step (R77): RESET, POLL and BYTE_IN, POLL alone, BYTE_IN alone, NOP. -/
theorem step_shapes (x : Inputs) (hx : s.currentInput = x) :
    step s =
      if x.rst then execReset x.cfgChDefault (s.afterReads x)
      else match x.poll, x.byteValid with
        | true, true => andThen (execPoll (s.afterReads x)) (execByteIn x.byteIn x.tsIn x.cfgRssiSrcCrsf)
        | true, false => execPoll (s.afterReads x)
        | false, true => execByteIn x.byteIn x.tsIn x.cfgRssiSrcCrsf (s.afterReads x)
        | false, false => .next (s.afterReads x) := by
  rw [step_eq, hx, strobes_eq]
  have hid : ∀ o : Host.Outcome State Fault Refusal, andThen o Host.Outcome.next = o := by
    intro o; cases o <;> rfl
  have hnil : runOps exec [] = Host.Outcome.next := rfl
  cases x.rst <;> cases x.poll <;> cases x.byteValid <;>
    simp only [runOps_cons, hnil, hid, if_true, if_false, Bool.false_eq_true, exec_reset, exec_poll, exec_byteIn,
      exec_nop, execNop]
  congr 1
  funext t
  simp only [runOps_cons, hnil, hid, exec_byteIn]

end Sys2Proof.Machine
end

