-- ==== Sys2Proof/Laws/Fields.lean ====
section
/-! SUPPORT. The channel fields of a snapshot, bit by bit (20_memory.md R52, 30_encoding.md R80). -/

namespace Sys2Proof.Machine

/-- A sum of distinct powers of two reads back bit by bit. -/
theorem sum_bits (f : Nat → Bool) (n : Nat) :
    ((List.range n).map fun j => (f j).toNat * 2 ^ j).sum < 2 ^ n ∧
      ∀ j, j < n → (((List.range n).map fun j => (f j).toNat * 2 ^ j).sum).testBit j = f j := by
  induction n with
  | zero => simp
  | succ n ih =>
    rw [List.range_succ, List.map_append, List.sum_append]
    simp only [List.map_cons, List.map_nil, List.sum_cons, List.sum_nil, Nat.add_zero]
    refine ⟨?_, fun j hj => ?_⟩
    · have h := ih.1
      cases f n <;> simp [Nat.pow_succ] <;> omega
    · rw [Nat.add_comm, Nat.mul_comm, Nat.testBit_two_pow_mul_add _ ih.1]
      split
      · exact ih.2 j ‹_›
      · obtain rfl : j = n := by omega
        cases f j <;> simp

/-- Payload bit k is bit (k mod 8) of snapshot byte 3 + (k div 8) (R52, R80). -/
theorem payloadBit_eq (m : Memory) (k : Nat) :
    payloadBit m k = ((m.read (3 + k / 8)).getLsbD (k % 8)).toNat := by
  unfold payloadBit BitVec.getLsbD Nat.testBit
  rw [Nat.one_and_eq_mod_two]
  rcases Nat.mod_two_eq_zero_or_one ((m.read (3 + k / 8)).toNat >>> (k % 8)) with h | h <;> rw [h] <;> rfl

/-- Bit j of the field at payload bit b is payload bit b + j (R80). -/
theorem field11_getLsbD (m : Memory) (b j : Nat) (hj : j < 11) :
    (field11 m b).getLsbD j = (m.read (3 + (b + j) / 8)).getLsbD ((b + j) % 8) := by
  unfold field11
  simp only [payloadBit_eq, BitVec.getLsbD_ofNat, hj, decide_true, Bool.true_and]
  exact (sum_bits (fun j => (m.read (3 + (b + j) / 8)).getLsbD ((b + j) % 8)) 11).2 j hj

end Sys2Proof.Machine
end

