-- ==== Sys2Proof/Laws/PerInstr.lean ====
section
/-! SUPPORT. One lemma per operation: the word its encoder writes has the format spec/opcode_table.json gives the row. -/

namespace Sys2Proof.Laws.EncodeForm

/-- The formats of the opcode table. -/
inductive Form where
  | controlVector | frameType | internalFunction
  deriving DecidableEq, Repr

/-- The format the opcode table gives an operation's row. -/
def formOf : Instr → Form
  | .reset _ => .controlVector
  | .byteIn _ _ _ => .controlVector
  | .poll => .controlVector
  | .nop => .controlVector
  | .readCh _ => .controlVector
  | .fbRead _ => .controlVector
  | .rcFixed _ => .frameType
  | .rcSubset _ => .frameType
  | .mspReq _ => .frameType
  | .mspWrite _ => .frameType
  | .devicePing _ => .frameType
  | .displayport _ => .frameType
  | .linkStats _ _ => .frameType
  | .linkStatsRx _ => .frameType
  | .linkStatsTx _ => .frameType
  | .command _ => .frameType
  | .unknownType _ => .frameType
  | .frameCrc _ => .internalFunction
  | .cmdCrc _ => .internalFunction

/-- In every instance, the encoder gives the operation a word of its row's format: a control vector, which selects the operation
(R77), a type byte with its frame (R78), or none for the two internal functions. -/
def Statement (i : Instr) : Prop :=
  ∀ p : Params,
    match formOf i with
    | .controlVector => ∃ x, encode p i = some (.ports x) ∧ i ∈ decodePorts x
    | .frameType => ∃ t P r, encode p i = some (.frameType t P r)
    | .internalFunction => encode p i = none

theorem reset (d : ChVal) : Statement (.reset d) :=
  fun _ => ⟨_, rfl, by simp [decodePorts, readPorts, strobes, Inputs.control, Inputs.zero]⟩
theorem byteIn (b : Byte) (ts : Stamp) (r : Bool) : Statement (.byteIn b ts r) :=
  fun _ => ⟨_, rfl, by simp [decodePorts, readPorts, strobes, Inputs.control, Inputs.zero]⟩
theorem poll : Statement .poll :=
  fun _ => ⟨_, rfl, by simp [decodePorts, readPorts, strobes, Inputs.control, Inputs.zero]⟩
theorem nop : Statement .nop :=
  fun _ => ⟨_, rfl, by simp [decodePorts, readPorts, strobes, Inputs.control, Inputs.zero]⟩
theorem readCh (k : ChIdx) : Statement (.readCh k) :=
  fun _ => ⟨_, rfl, by simp [decodePorts, readPorts, strobes, Inputs.control, Inputs.zero]⟩
theorem fbRead (a : BufIdx) : Statement (.fbRead a) :=
  fun _ => ⟨_, rfl, by simp [decodePorts, readPorts, strobes, Inputs.control, Inputs.zero]⟩
theorem rcFixed (P : PayloadLen) : Statement (.rcFixed P) :=
  fun _ => ⟨_, _, _, rfl⟩
theorem rcSubset (P : PayloadLen) : Statement (.rcSubset P) :=
  fun _ => ⟨_, _, _, rfl⟩
theorem mspReq (P : PayloadLen) : Statement (.mspReq P) :=
  fun _ => ⟨_, _, _, rfl⟩
theorem mspWrite (P : PayloadLen) : Statement (.mspWrite P) :=
  fun _ => ⟨_, _, _, rfl⟩
theorem devicePing (P : PayloadLen) : Statement (.devicePing P) :=
  fun _ => ⟨_, _, _, rfl⟩
theorem displayport (P : PayloadLen) : Statement (.displayport P) :=
  fun _ => ⟨_, _, _, rfl⟩
theorem linkStats (P : PayloadLen) (r : Bool) : Statement (.linkStats P r) :=
  fun _ => ⟨_, _, _, rfl⟩
theorem linkStatsRx (P : PayloadLen) : Statement (.linkStatsRx P) :=
  fun _ => ⟨_, _, _, rfl⟩
theorem linkStatsTx (P : PayloadLen) : Statement (.linkStatsTx P) :=
  fun _ => ⟨_, _, _, rfl⟩
theorem command (P : PayloadLen) : Statement (.command P) :=
  fun _ => ⟨_, _, _, rfl⟩
theorem unknownType (t : Byte) : Statement (.unknownType t) :=
  fun _ => ⟨_, _, _, rfl⟩
theorem frameCrc (P : PayloadLen) : Statement (.frameCrc P) :=
  fun _ => rfl
theorem cmdCrc (P : PayloadLen) : Statement (.cmdCrc P) :=
  fun _ => rfl

end Sys2Proof.Laws.EncodeForm
end

