-- ==== Sys2Proof/Laws/Step.lean ====
section
/-! SUPPORT. BYTE_IN and the step, each inverted once in the terms of Safety.lean. -/

namespace Sys2Proof.Machine

/-! ## BYTE_IN -/

/-- What no ending of BYTE_IN changes, and the frame-start timestamp (R122). -/
theorem execByteIn_frame {b : Byte} {ts : Stamp} {r : Bool} {s t : State} (h : execByteIn b ts r s = .next t) :
    t.params = s.params ∧ t.ch = s.ch ∧ t.inputs = s.inputs ∧ t.hostClock = s.hostClock ∧
    t.out.pollDone = s.out.pollDone ∧ t.out.pollStatus = s.out.pollStatus ∧ t.out.chData = s.out.chData ∧
    t.out.fbRdData = s.out.fbRdData ∧ t.out.numChannels = s.out.numChannels ∧ t.out.refreshUs = s.out.refreshUs ∧
    t.tStart = (if cursorFor s ts = 0 then ts else s.tStart) := by
  have hc := s.workingPos_eq ts
  rcases execByteIn_cases b ts r s with ⟨hS, h'⟩ | ⟨P, _, ⟨_, h'⟩ | ⟨_, u, rfl, ⟨_, h'⟩ | ⟨_, h'⟩⟩⟩ <;> rw [h'] at h
  · cases h; simp [framingError, hc]
  · cases h; simp [advance, hc]
  · obtain ⟨t', ht, hh⟩ := dispatch_spec P r
      (frameValid ((((s.stampStart ts).storeByte (s.workingPos ts) b).setPos 0).evalFrameCrc P))
    rw [ht] at h; cases h
    simp [frameValid] at hh
    simp [hh, hc]
  · cases h; simp [crcError, hc]

/-- What BYTE_IN does, by the way it ends (R120, R212): a framing error; or the byte is stored at the working cursor, and
either the frame goes on, or it is valid and dispatched, or its CRC fails. -/
theorem execByteIn_spec {b : Byte} {ts : Stamp} {r : Bool} {s t : State} (h : execByteIn b ts r s = .next t) :
    ((sizeFor s (cursorFor s ts) < 4 ∨ 64 < sizeFor s (cursorFor s ts)) ∧
      t.fb = s.fb ∧ t.pos = 0 ∧ t.snap = s.snap ∧ t.ready = s.ready ∧ CountedFailure s t ∧
      t.out = { s.out with rxEvent := .framingError, fallbackReq := t.out.fallbackReq } ∧ t.crc = s.crc) ∨
    ∃ P : PayloadLen, sizeFor s (cursorFor s ts) = P.val + 4 ∧ t.fb = s.fb.write (cursorFor s ts) b ∧
      (((cursorFor s ts).toNat + 1 < P.val + 4 ∧ t.pos = cursorFor s ts + 1 ∧ t.snap = s.snap ∧ t.ready = s.ready ∧
        t.errCnt = s.errCnt ∧ t.crc = s.crc ∧
        t.out = { s.out with
          rxEvent := if 1100 < (ts - s.tStart).toNat ∧ s.pos ≠ 0 then .storedResync else .stored }) ∨
       (P.val + 4 ≤ (cursorFor s ts).toNat + 1 ∧ t.pos = 0 ∧
        ((t.out.rxEvent = .frameValid ∧ t.errCnt = (if s.params.v3 then 0 else s.errCnt) ∧
          t.out.fallbackReq = s.out.fallbackReq ∧
          crc8 0xD5#8 (t.fb.slice 2 (P.val + 2)) = t.fb.read (P.val + 3) ∧
          ((t.snap = s.snap ∧ t.ready = s.ready ∧ t.out.dispRoute ≠ .rcFixed ∧ t.out.dispRoute ≠ .rcSubset) ∨
           (t.snap = t.fb ∧ t.ready = true ∧ t.fb.read 0 = s.params.addrFc ∧
            ((t.fb.read 2 = s.params.typeRc ∧ t.out.dispRoute = .rcFixed) ∨
             (s.params.v3 = true ∧ t.fb.read 2 = s.params.typeSubset ∧ t.out.dispRoute = .rcSubset)))) ∧
          ((t.out.dispValid = true ∧ t.out.filtReason = .none ∧ t.out.dispRoute ≠ .none) ∨
           (t.out.dispValid = false ∧ t.out.filtReason ≠ .none ∧ t.out.dispRoute = .none))) ∨
         (t.snap = s.snap ∧ t.ready = s.ready ∧ CountedFailure s t ∧
          crc8 0xD5#8 (t.fb.slice 2 (P.val + 2)) ≠ t.fb.read (P.val + 3) ∧
          t.out = { s.out with rxEvent := .crcError, fallbackReq := t.out.fallbackReq })))) := by
  have hc := s.workingPos_eq ts
  rcases execByteIn_cases b ts r s with ⟨hS, h'⟩ | ⟨P, hP, ⟨hlt, h'⟩ | ⟨hge, u, rfl, ⟨hok, h'⟩ | ⟨hok, h'⟩⟩⟩ <;>
    rw [h'] at h <;> rw [hc] at * <;> have hc := s.workingPos_eq ts
  · left
    cases h
    rw [frameSizeAt_eq] at hS
    refine ⟨hS, by simp [framingError], by simp [framingError], by simp [framingError], by simp [framingError], ?_, ?_,
      by simp [framingError]⟩
    · have := State.countFailure_counted (((s.stampStart ts).setPos 0).emitRx .framingError)
      simpa [CountedFailure, framingError] using this
    · unfold framingError; rw [State.countFailure_out]; simp
  · right; refine ⟨P, by rw [← frameSizeAt_eq, hP]; rfl, ?_⟩; cases h
    refine ⟨by simp [advance, hc], .inl ⟨hlt, by simp [advance, hc], by simp [advance], by simp [advance],
      by simp [advance], by simp [advance], ?_⟩⟩
    have : s.resynced ts = decide (1100 < (ts - s.tStart).toNat ∧ s.pos ≠ 0) := by
      simp [State.resynced, State.timedOut, State.elapsed, Config.resyncUs]; rfl
    simp only [advance, this, State.emitRx_out, State.setPos_out, State.storeByte_out, State.stampStart_out]
    congr 1
    by_cases hq : 1100 < (ts - s.tStart).toNat ∧ s.pos ≠ 0
    · rw [if_pos hq, if_pos (by simpa using hq)]
    · rw [if_neg hq, if_neg (by simpa using hq)]
  · right; refine ⟨P, by rw [← frameSizeAt_eq, hP]; rfl, ?_⟩
    obtain ⟨t', ht, hh⟩ := dispatch_spec P r
      (frameValid ((((s.stampStart ts).storeByte (cursorFor s ts) b).setPos 0).evalFrameCrc P))
    rw [ht] at h; cases h
    simp [frameValid] at hh
    simp [State.evalFrameCrc, frameRegion, PayloadLen.total, Config.polyFrame] at hok
    refine ⟨hh.2.1, .inr ⟨hge, hh.2.2.1, .inl ⟨by simp [hh], by simp [hh], by simp [hh], ?_, ?_, ?_⟩⟩⟩
    · rw [hh.2.1]; exact hok
    · rw [hh.2.1]; exact hh.2.2.2.2.2.2.2.2.2.2.2.2.2.2.2.2.1
    · exact hh.2.2.2.2.2.2.2.2.2.2.2.2.2.2.2.2.2
  · right; refine ⟨P, by rw [← frameSizeAt_eq, hP]; rfl, ?_⟩; cases h
    simp [State.evalFrameCrc, frameRegion, PayloadLen.total, Config.polyFrame] at hok
    refine ⟨by simp [crcError], .inr ⟨hge, by simp [crcError], .inr ⟨by simp [crcError], by simp [crcError], ?_, ?_, ?_⟩⟩⟩
    · have := State.countFailure_counted
        (((((s.stampStart ts).storeByte (cursorFor s ts) b).setPos 0).evalFrameCrc P).emitRx .crcError)
      simpa [CountedFailure, crcError] using this
    · simpa [crcError] using hok
    · unfold crcError; rw [State.countFailure_out]; simp

/-! ## The step -/

/-- The state of a step after its read ports and its POLL: the state BYTE_IN runs on. -/
def State.beforeByte (s : State) (x : Inputs) : State :=
  if x.poll then
    if s.ready then (((s.afterReads x).emitPoll .complete).setReady false).setCh (decodeSnapshot (s.afterReads x))
    else (s.afterReads x).emitPoll .pending
  else s.afterReads x


/-- A step without reset: BYTE_IN, if strobed, on the state after POLL. -/
theorem step_running (s : State) (h : s.currentInput.rst = false) :
    step s =
      if s.currentInput.byteValid then
        execByteIn s.currentInput.byteIn s.currentInput.tsIn s.currentInput.cfgRssiSrcCrsf
          (s.beforeByte s.currentInput)
      else .next (s.beforeByte s.currentInput) := by
  rw [step_shapes s _ rfl, h]
  unfold State.beforeByte execPoll
  cases s.currentInput.poll <;> cases s.currentInput.byteValid <;> simp [State.afterReads]

/-- A step without reset, inverted. -/
theorem step_running_cases {s t : State} (hr : s.currentInput.rst = false) (h : step s = .next t) :
    (s.currentInput.byteValid = false ∧ t = s.beforeByte s.currentInput) ∨
    (s.currentInput.byteValid = true ∧
      execByteIn s.currentInput.byteIn s.currentInput.tsIn s.currentInput.cfgRssiSrcCrsf
        (s.beforeByte s.currentInput) = .next t) := by
  rw [step_running s hr] at h
  cases hb : s.currentInput.byteValid
  · rw [hb] at h; simp at h; exact .inl ⟨rfl, h.symm⟩
  · rw [hb] at h; exact .inr ⟨rfl, by simpa using h⟩

/-- A reset step. -/
theorem step_resetting {s : State} (h : s.currentInput.rst = true) :
    step s = .next (((s.afterReads s.currentInput).clearAll s.currentInput.cfgChDefault).emitResetIdle) := by
  rw [step_shapes s _ rfl, h]; rfl

section
variable (s : State) (x : Inputs)

theorem decodeSnapshot_afterReads : decodeSnapshot (s.afterReads x) = decodeSnapshot s := by
  simp [decodeSnapshot, State.afterReads]

@[simp] theorem State.beforeByte_params : (s.beforeByte x).params = s.params := by
  unfold State.beforeByte; (repeat' split) <;> simp_all [State.afterReads]

@[simp] theorem State.beforeByte_fb : (s.beforeByte x).fb = s.fb := by
  unfold State.beforeByte; (repeat' split) <;> simp_all [State.afterReads]

@[simp] theorem State.beforeByte_pos : (s.beforeByte x).pos = s.pos := by
  unfold State.beforeByte; (repeat' split) <;> simp_all [State.afterReads]

@[simp] theorem State.beforeByte_tStart : (s.beforeByte x).tStart = s.tStart := by
  unfold State.beforeByte; (repeat' split) <;> simp_all [State.afterReads]

@[simp] theorem State.beforeByte_errCnt : (s.beforeByte x).errCnt = s.errCnt := by
  unfold State.beforeByte; (repeat' split) <;> simp_all [State.afterReads]

@[simp] theorem State.beforeByte_snap : (s.beforeByte x).snap = s.snap := by
  unfold State.beforeByte; (repeat' split) <;> simp_all [State.afterReads]

@[simp] theorem State.beforeByte_crc : (s.beforeByte x).crc = CrcWires.idle := by
  unfold State.beforeByte; (repeat' split) <;> simp_all [State.afterReads]

@[simp] theorem State.beforeByte_ready : (s.beforeByte x).ready = (s.ready && !x.poll) := by
  unfold State.beforeByte; (repeat' split) <;> simp_all [State.afterReads]

@[simp] theorem State.beforeByte_inputs : (s.beforeByte x).inputs = s.inputs.tail := by
  unfold State.beforeByte; (repeat' split) <;> simp_all [State.afterReads, State.beginStep_inputs]

@[simp] theorem State.beforeByte_ch :
    (s.beforeByte x).ch = if x.poll && s.ready then decodeSnapshot s else s.ch := by
  have := decodeSnapshot_afterReads s x
  unfold State.beforeByte; (repeat' split) <;> simp_all [State.afterReads]

@[simp] theorem State.beforeByte_out :
    (s.beforeByte x).out = { Outputs.idle with
      pollDone := x.poll
      pollStatus := if x.poll && s.ready then .complete else .pending
      chData := s.ch[x.chIdx.toNat]'x.chIdx.isLt
      fbRdData := s.fb.read x.fbRdAddr.toNat } := by
  unfold State.beforeByte
  split
  · split <;> simp_all [State.afterReads]
  · simp_all [State.afterReads]; exact ⟨rfl, rfl⟩

@[simp] theorem cursorFor_beforeByte (ts : Stamp) : cursorFor (s.beforeByte x) ts = cursorFor s ts := by
  simp [cursorFor]

@[simp] theorem sizeFor_beforeByte (p : BufIdx) : sizeFor (s.beforeByte x) p = sizeFor s p := by
  simp [sizeFor]

end

end Sys2Proof.Machine
end

