-- ==== Sys2Proof/Tests/Slice0.lean ====
section
/-! SUPPORT. The model's own tests: ill-formed terms refused, words written out from 30_encoding.md, one step per operation
against the vectors of 95_test_vectors.md, and a witness for the hypotheses of every statement that has some. -/

namespace Sys2Proof.Tests

-- One theorem at a time: a thread for each kernel evaluation would exhaust the checker's memory limit.
set_option Elab.async false

open Sys2Proof Sys2Proof.Machine

/-! ## Helpers -/

/-- The buffer holding `bytes` from index 0 on. -/
def bufferOf (bytes : List Byte) : Memory :=
  bytes.zipIdx.foldl (fun m c => m.write (BitVec.ofNat 6 c.2) c.1) []

/-- REF after reset with `bytes` received, the cursor after them. -/
def received (bytes : List Byte) : State :=
  { State.reset with fb := bufferOf bytes, pos := BitVec.ofNat 6 bytes.length }

/-- REF after reset with `bytes` standing in the snapshot, `ready` set. -/
def waiting (bytes : List Byte) : State :=
  { State.reset with snap := bufferOf bytes, ready := true }

/-- The inputs of a byte `b` at time `ts`, with REF's RSSI source (R9). -/
def byteAt (b : Byte) (ts : Stamp) : Inputs :=
  { Inputs.zero with byteValid := true, byteIn := b, tsIn := ts, cfgRssiSrcCrsf := true }

/-- The inputs of a poll. -/
def pollIn : Inputs := { Inputs.zero with poll := true }

/-- The inputs of a reset. -/
def resetIn : Inputs := { Inputs.zero with rst := true, cfgChDefault := 992 }

/-- `s` with `x` driven in the coming step. -/
def drive (s : State) (x : Inputs) : State := { s with inputs := [x] }

/-- The operation or step `o` answers a next state with `q`. -/
def answers (o : Host.Outcome State Fault Refusal) (q : State → Bool) : Bool :=
  match o with
  | .next t => q t
  | .fault _ => false
  | .refused _ => false

theorem answers_iff (o : Host.Outcome State Fault Refusal) (q : State → Bool) :
    answers o q = true ↔ ∃ t, o = .next t ∧ q t = true := by
  cases o <;> simp [answers]

/-- The state in which the last byte of `frame` is presented, the others received. -/
def beforeLast (frame : List Byte) : State :=
  drive (received frame.dropLast) (byteAt (frame.getLastD 0) 10)

/-- REF without version 3. -/
def withoutV3 (s : State) : State := { s with params := { s.params with v3 := false } }

/-- REF without telemetry. -/
def withoutTelem (s : State) : State := { s with params := { s.params with telem := false } }

/-! ## Frames of 95_test_vectors.md -/

def vB1 : List Byte := [0xC8, 0x02, 0x16, 0xD3]
def vB7 : List Byte := [0xC8, 0x02, 0x16, 0x00]
def vS4 : List Byte := [0xC8, 0x06, 0x17, 0x84, 0x0C, 0xD0, 0x07, 0xB4]
def vMspReq : List Byte := [0xC8, 0x06, 0x7A, 0xC8, 0xEA, 0x30, 0x01, 0x44]
def vMspWrite : List Byte := [0xC8, 0x05, 0x7C, 0xC8, 0xEA, 0x30, 0x25]
def vPing : List Byte := [0x00, 0x04, 0x28, 0x00, 0xEA, 0x54]
def vDisplay : List Byte := [0xC8, 0x05, 0x7D, 0xC8, 0xEA, 0x01, 0x43]
def vLink : List Byte := [0xC8, 0x0C, 0x14, 0x28, 0x00, 0x64, 0x0A, 0x00, 0x02, 0x01, 0x1E, 0x64, 0x08, 0xE0]
def vLinkShort : List Byte := [0xC8, 0x0B, 0x14, 0x28, 0x00, 0x64, 0x0A, 0x00, 0x02, 0x01, 0x1E, 0x64, 0x47]
def vLinkRx : List Byte := [0xEA, 0x07, 0x1C, 0x01, 0x02, 0x03, 0x04, 0x05, 0x36]
def vLinkTx : List Byte := [0xC8, 0x08, 0x1D, 0x01, 0x02, 0x03, 0x04, 0x05, 0x06, 0x62]
def vLinkTxEA : List Byte := [0xEA, 0x08, 0x1D, 0x01, 0x02, 0x03, 0x04, 0x05, 0x06, 0x62]
def vCommand : List Byte := [0xC8, 0x07, 0x32, 0xC8, 0xEA, 0x10, 0x01, 0xBA, 0x05]
def vCommandCrc : List Byte := [0xC8, 0x07, 0x32, 0xC8, 0xEA, 0x10, 0x01, 0x00, 0x4A]
def vCommandAddr : List Byte := [0xC8, 0x07, 0x32, 0xEC, 0xEA, 0x10, 0x01, 0x34, 0xF6]
def vUnknown : List Byte := [0xC8, 0x03, 0x99, 0x01, 0x9D]
def vD2 : List Byte :=
  [0xC8, 0x18, 0x16, 0x00, 0x08, 0x80, 0x00, 0x06, 0x40, 0x80, 0x02, 0x18, 0xE0] ++
  [0x00, 0x08, 0x48, 0x80, 0x02, 0x16, 0xC0, 0x80, 0x06, 0x38, 0xE0, 0x01, 0x20]

/-! ## Ill-formed terms -/

theorem test_wellFormed_v3_types :
    (Instr.rcSubset 4).wellFormed { Params.ref with v3 := false } = false ∧
    (Instr.linkStatsRx 5).wellFormed { Params.ref with v3 := false } = false ∧
    (Instr.linkStatsTx 6).wellFormed { Params.ref with v3 := false } = false ∧
    (Instr.command 5).wellFormed { Params.ref with v3 := false } = false := by decide

theorem test_wellFormed_telem_types :
    (Instr.mspReq 4).wellFormed { Params.ref with telem := false } = false ∧
    (Instr.mspWrite 3).wellFormed { Params.ref with telem := false } = false ∧
    (Instr.devicePing 2).wellFormed { Params.ref with telem := false } = false ∧
    (Instr.displayport 3).wellFormed { Params.ref with telem := false } = false := by decide

theorem test_wellFormed_unknown_type :
    (Instr.unknownType 0x16).wellFormed Params.ref = false ∧ (Instr.unknownType 0x99).wellFormed Params.ref = true := by
  decide

theorem test_wellFormed_all_of_ref :
    (Instr.command 0).wellFormed Params.ref = true ∧ (Instr.displayport 60).wellFormed Params.ref = true := by decide

theorem test_params_duplicate_code : ¬ Params.Valid { Params.ref with typePing := 0x16 } := by decide

theorem test_params_same_polynomial : ¬ Params.Valid { Params.ref with polyCmd := 0xD5 } := by decide

theorem test_params_ref : Params.ref.Valid := by decide

theorem test_buffer_form :
    (bufferOf vD2).wf = true ∧ Memory.wf [(3, 0x01), (2, 0x01)] = false ∧ Memory.wf [(2, 0x00)] = false ∧
    Memory.wf [(64, 0x01)] = false := by decide +kernel

/-! ## Words written out from the encodings (R77, R78, R151) -/

theorem test_decode_reset :
    decodeTableWord 8 0b00000100 = some (.reset 0) ∧
    decodePorts ⟨true, true, 0x11, 5, true, 1, 2, true, 992⟩ = [.readCh 1, .fbRead 2, .reset 992] := by decide

theorem test_decode_byteIn :
    decodeTableWord 8 0b00000010 = some (.byteIn 0 0 false) ∧
    decodePorts ⟨false, true, 0x11, 5, false, 1, 2, true, 992⟩ = [.readCh 1, .fbRead 2, .byteIn 0x11 5 true] := by decide

theorem test_decode_poll :
    decodeTableWord 8 0b00000001 = some .poll ∧
    decodePorts ⟨false, false, 0x11, 5, true, 1, 2, true, 992⟩ = [.readCh 1, .fbRead 2, .poll] := by decide

theorem test_decode_nop :
    decodeTableWord 8 0b00000000 = some .nop ∧
    decodePorts ⟨false, false, 0x11, 5, false, 15, 63, true, 992⟩ = [.readCh 15, .fbRead 63, .nop] := by decide

/-- `c = 0b011` runs both POLL and BYTE_IN (R77). -/
theorem test_decode_both_strobes :
    decodePorts ⟨false, true, 0x11, 5, true, 0, 0, false, 992⟩ =
      [.readCh 0, .fbRead 0, .poll, .byteIn 0x11 5 false] := by decide

theorem test_decode_rcFixed : decode Params.ref (.frameType 0b00010110 22 true) = [.rcFixed 22] := by decide
theorem test_decode_rcSubset : decode Params.ref (.frameType 0b00010111 4 true) = [.rcSubset 4] := by decide
theorem test_decode_mspReq : decode Params.ref (.frameType 0b01111010 4 true) = [.mspReq 4] := by decide
theorem test_decode_mspWrite : decode Params.ref (.frameType 0b01111100 3 true) = [.mspWrite 3] := by decide
theorem test_decode_devicePing : decode Params.ref (.frameType 0b00101000 2 true) = [.devicePing 2] := by decide
theorem test_decode_displayport : decode Params.ref (.frameType 0b01111101 60 true) = [.displayport 60] := by decide
theorem test_decode_linkStats : decode Params.ref (.frameType 0b00010100 10 true) = [.linkStats 10 true] := by decide
theorem test_decode_linkStatsRx : decode Params.ref (.frameType 0b00011100 5 true) = [.linkStatsRx 5] := by decide
theorem test_decode_linkStatsTx : decode Params.ref (.frameType 0b00011101 6 true) = [.linkStatsTx 6] := by decide
theorem test_decode_command : decode Params.ref (.frameType 0b00110010 5 true) = [.command 5] := by decide
theorem test_decode_unknownType : decode Params.ref (.frameType 0b10011001 1 true) = [.unknownType 0x99] := by decide

theorem test_table_words_are_one_byte :
    decodeTableWord 0 0 = none ∧ decodeTableWord 16 0x0016 = none ∧ decodeTableWord 8 0x17 = some (.rcSubset 0) := by decide

/-- The bytes of V-B1, V-S4 and the command frame V-G1. -/
theorem test_frame_encoder :
    frameBytes 0xC8 0x16 [] = vB1 ∧ frameBytes 0xC8 0x17 [0x84, 0x0C, 0xD0, 0x07] = vS4 ∧
    cmdFrameBytes Params.ref 0xC8 0x32 [0xC8, 0xEA, 0x10, 0x01] = vCommand := by decide +kernel

/-- The placed word is the next thing a step runs: a control vector, and a type byte through a whole frame's end. -/
theorem test_fetch_word :
    (State.reset.withFetchWord 8 0b001).selectedOps = [.readCh 0, .fbRead 0, .poll] ∧
    answers (step (State.reset.withFetchWord 8 0x28)) (fun t => t.out.dispRoute == .devicePing) = true := by decide +kernel

/-! ## One step per operation -/

/-- V-H1: RESET in mid-frame wins over byte and poll; `ch_data` is the old register. -/
theorem test_reset :
    answers (step (drive (received [0xC8, 0x18, 0x16])
        { resetIn with byteValid := true, byteIn := 0xE0, tsIn := 40, poll := true, cfgChDefault := 1000 }))
      (fun t => t.pos == 0 && t.fb == [] && t.ch[0] == 1000 && t.out == { Outputs.idle with chData := 992, fbRdData := 0xC8 })
      = true := by decide +kernel

/-- V-S2, V-B2: elapsed 1100 stores, elapsed 1101 resynchronises. -/
theorem test_byteIn_timeout :
    answers (step (drive { received [0xC8] with tStart := 1000 } (byteAt 0x18 2100)))
      (fun t => t.out.rxEvent == .stored && t.pos == 2 && t.tStart == 1000) = true ∧
    answers (step (drive { received [0xC8, 0x18] with tStart := 1000 } (byteAt 0x16 2101)))
      (fun t => t.out.rxEvent == .storedResync && t.pos == 1 && t.tStart == 2101 && t.fb.read 0 == 0x16) = true := by
  decide +kernel

/-- V-S9 and V-S7: an oversized length byte, and the hundredth failure. -/
theorem test_byteIn_failures :
    answers (step (drive (received [0xC8, 0x3F, 0x16]) (byteAt 0xAA 30)))
      (fun t => t.out.rxEvent == .framingError && t.pos == 0 && t.errCnt == 1 && t.fb.read 3 == 0) = true ∧
    answers (step { beforeLast vB7 with errCnt := 99 })
      (fun t => t.out.rxEvent == .crcError && t.out.fallbackReq && t.errCnt == 0 && !t.ready) = true := by decide +kernel

/-- V-S3 (b): sixteen sequential values. -/
theorem test_poll_fixed :
    answers (step (drive (waiting vD2) pollIn))
      (fun t => t.out.pollStatus == .complete && !t.ready && t.ch == Vector.ofFn fun i => BitVec.ofNat 11 i.val) = true := by
  decide +kernel

/-- V-S4: start 4, values 100 and 2000, the others untouched. -/
theorem test_poll_subset :
    answers (step (drive (waiting vS4) pollIn))
      (fun t => t.out.pollStatus == .complete && t.ch[3] == 992 && t.ch[4] == 100 && t.ch[5] == 2000 && t.ch[6] == 992)
      = true := by decide +kernel

/-- R135: a step without a strobe evaluates no timeout. -/
theorem test_nop :
    answers (step (drive (received [0xC8, 0x18]) { Inputs.zero with tsIn := 5000 }))
      (fun t => t.pos == 2 && t.tStart == 0 && t.out.rxEvent == .idle) = true := by decide +kernel

/-- PROG5 step 53: the read port of a polling step shows the register before the decode. -/
theorem test_readCh :
    answers (step (drive (waiting vD2) { pollIn with chIdx := 1 })) (fun t => t.out.chData == 992 && t.ch[1] == 1) = true ∧
    answers (exec (.readCh 15) (received [])) (fun t => t.out.chData == 992) = true := by decide +kernel

/-- PROG4 steps 10 and 11. -/
theorem test_fbRead :
    answers (step (drive (received vMspReq) { Inputs.zero with fbRdAddr := 5 })) (fun t => t.out.fbRdData == 0x30) = true ∧
    answers (step (drive (received vMspReq) { Inputs.zero with fbRdAddr := 6 })) (fun t => t.out.fbRdData == 0x01) = true := by
  decide +kernel

/-- V-B1: route 1, size 4, window (3, 0). -/
theorem test_rcFixed :
    answers (step (beforeLast vB1)) (fun t => t.ready && t.snap == t.fb && t.out.rxEvent == .frameValid &&
      t.out.dispRoute.code == 1 && t.out.dispType == 0x16 && t.out.dispSize == 4 && t.out.dispPlOff == 3 &&
      t.out.dispPlLen == 0) = true := by decide +kernel

/-- PROG2 step 12: route 2, size 8, window (3, 4). -/
theorem test_rcSubset :
    answers (step (beforeLast vS4)) (fun t => t.ready && t.out.dispRoute.code == 2 && t.out.dispSize == 8 &&
      t.out.dispPlOff == 3 && t.out.dispPlLen == 4) = true := by decide +kernel

/-- V-C3: route 3, window (5, 2). -/
theorem test_mspReq :
    answers (step (beforeLast vMspReq)) (fun t => !t.ready && t.out.dispRoute.code == 3 && t.out.dispType == 0x7A &&
      t.out.dispPlOff == 5 && t.out.dispPlLen == 2) = true := by decide +kernel

/-- Route 3, window (5, 1); the type byte tells it from a request. -/
theorem test_mspWrite :
    answers (step (beforeLast vMspWrite)) (fun t => t.out.dispRoute.code == 3 && t.out.dispType == 0x7C &&
      t.out.dispPlOff == 5 && t.out.dispPlLen == 1) = true := by decide +kernel

/-- PROG4 step 28: route 4, size 6, window (3, 2), from address 0x00. -/
theorem test_devicePing :
    answers (step (beforeLast vPing)) (fun t => t.out.dispRoute.code == 4 && t.out.dispSize == 6 &&
      t.out.dispPlOff == 3 && t.out.dispPlLen == 2) = true := by decide +kernel

/-- Route 5, size 7, window (3, 3). -/
theorem test_displayport :
    answers (step (beforeLast vDisplay)) (fun t => t.out.dispRoute.code == 5 && t.out.dispSize == 7 &&
      t.out.dispPlOff == 3 && t.out.dispPlLen == 3) = true := by decide +kernel

/-- PROG6 step 63: route 6, size 14, window (3, 10); a payload of nine bytes is gated. -/
theorem test_linkStats :
    answers (step (beforeLast vLink)) (fun t => t.out.dispRoute.code == 6 && t.out.dispSize == 14 &&
      t.out.dispPlOff == 3 && t.out.dispPlLen == 10) = true ∧
    answers (step (beforeLast vLinkShort)) (fun t => !t.out.dispValid && t.out.filtReason.code == 3) = true := by
  decide +kernel

/-- Route 7 from another address. -/
theorem test_linkStatsRx :
    answers (step (beforeLast vLinkRx)) (fun t => t.out.dispRoute.code == 7 && t.out.dispPlLen == 5) = true := by
  decide +kernel

/-- Route 8 for the flight controller only. -/
theorem test_linkStatsTx :
    answers (step (beforeLast vLinkTx)) (fun t => t.out.dispRoute.code == 8 && t.out.dispPlLen == 6) = true ∧
    answers (step (beforeLast vLinkTxEA)) (fun t => !t.out.dispValid && t.out.filtReason.code == 2) = true := by
  decide +kernel

/-- V-G1: route 9, window (3, 5); with a wrong inner CRC and with a wrong address byte it is filtered. -/
theorem test_command :
    answers (step (beforeLast vCommand)) (fun t => t.out.dispRoute.code == 9 && t.out.dispPlLen == 5) = true ∧
    answers (step (beforeLast vCommandCrc)) (fun t => t.out.filtReason.code == 4) = true ∧
    answers (step (beforeLast vCommandAddr)) (fun t => t.out.filtReason.code == 5) = true := by decide +kernel

/-- V-B10: the filtered frame is valid and clears the counter. -/
theorem test_unknownType :
    answers (step { beforeLast vUnknown with errCnt := 5 }) (fun t => t.out.rxEvent == .frameValid && t.errCnt == 0 &&
      t.out.filtReason.code == 1 && !t.out.dispValid) = true := by decide +kernel

/-- V-A1 and V-A6. -/
theorem test_frameCrc :
    crc8 0xD5 [0x31, 0x32, 0x33, 0x34, 0x35, 0x36, 0x37, 0x38, 0x39] = 0xBC ∧
    answers (exec (.frameCrc 5) (received vCommand)) (fun t => t.crc.frameCrc == 0x05 && t.crc.frameOk) = true := by
  decide +kernel

/-- V-A1 and V-A6. -/
theorem test_cmdCrc :
    crc8 0xBA [0x31, 0x32, 0x33, 0x34, 0x35, 0x36, 0x37, 0x38, 0x39] = 0x20 ∧
    answers (exec (.cmdCrc 5) (received vCommand)) (fun t => t.crc.cmdCrc == 0xBA && t.crc.cmdOk) = true := by
  decide +kernel

/-! ## Witnesses: states and operands that meet the hypotheses of the statements -/

theorem witness_ResetStepDominates :
    (drive (received vB1.dropLast) { resetIn with byteValid := true, poll := true }).currentInput.rst = true := by decide

theorem witness_NopChangesNothing :
    let s := drive (received vB1.dropLast) Inputs.zero
    s.currentInput.rst = false ∧ s.currentInput.byteValid = false ∧ s.currentInput.poll = false := by decide

/-- A poll without a byte, a byte, a reset. -/
theorem witness_NoByteLeavesAssembler :
    answers (step (drive (waiting vB1) pollIn)) (fun t => t.out.rxEvent == .idle) = true ∧
    answers (step (beforeLast vB1)) (fun t => t.out.rxEvent != .idle) = true ∧
    answers (step (drive (waiting vB1) resetIn)) (fun t => t.out.rxEvent == .idle) = true := by decide +kernel

/-- A polling and a resetting step, at both ends of the index range. -/
theorem witness_ReadChShowsStartOfStep :
    answers (step (drive (waiting vD2) { pollIn with chIdx := 0 })) (fun t => t.out.chData == 992) = true ∧
    answers (step (drive (waiting vD2) { resetIn with chIdx := 15 })) (fun t => t.out.chData == 992) = true := by decide +kernel

theorem witness_FbReadShowsStartOfStep :
    answers (step { beforeLast vB1 with inputs := [{ byteAt 0xD3 10 with fbRdAddr := 3 }] })
      (fun t => t.out.fbRdData == 0 && t.fb.read 3 == 0xD3) = true ∧
    answers (step (drive (received vB1) { Inputs.zero with fbRdAddr := 63 })) (fun t => t.out.fbRdData == 0) = true := by
  decide +kernel

theorem witness_ContractConstantsNeverChange :
    answers (step (drive (waiting vD2) resetIn)) (fun t => t.out.numChannels == 16 && t.out.refreshUs == 6667) = true := by
  decide +kernel

theorem witness_StepRunsSelectedOps_queue : (drive State.reset pollIn).inputs = pollIn :: [] := by decide

theorem witness_StepRunsSelectedOps_free : State.reset.inputs = [] := by decide

/-- Set and poll in one step (PROG5 step 53), poll alone, set alone. -/
theorem witness_LatchCombinesSetAndPoll :
    let s := { beforeLast vB1 with inputs := [{ byteAt 0xD3 10 with poll := true }], snap := bufferOf vS4, ready := true }
    s.currentInput.rst = false ∧ answers (exec .poll s) (fun p => !p.ready) = true ∧
    answers (step s) (fun t => t.ready && t.out.pollStatus == .complete && t.snap == t.fb && t.ch[4] == 100) = true := by
  decide +kernel

theorem witness_LatchCombinesSetAndPoll_one_sided :
    answers (step (drive (waiting vS4) pollIn)) (fun t => !t.ready) = true ∧
    answers (step (beforeLast vB1)) (fun t => t.ready && t.out.dispRoute == .rcFixed) = true ∧
    answers (step (drive (waiting vS4) Inputs.zero)) (fun t => t.ready) = true := by decide +kernel

theorem witness_ByteAndPollIndependent :
    let s := { beforeLast vB1 with snap := bufferOf vS4, ready := true }
    let x := { byteAt 0xD3 10 with poll := true }
    let y := byteAt 0xD3 10
    x.rst = false ∧ y.rst = false ∧ x.byteValid = y.byteValid ∧ x.byteIn = y.byteIn ∧ x.tsIn = y.tsIn ∧
    x.cfgRssiSrcCrsf = y.cfgRssiSrcCrsf ∧ answers (step { s with inputs := [x] }) (fun t => t.ready) = true ∧
    answers (step { s with inputs := [y] }) (fun t => t.ready) = true := by decide +kernel

theorem witness_ByteAndPollIndependent_poll :
    let s := { beforeLast vB1 with snap := bufferOf vS4, ready := true }
    answers (step { s with inputs := [{ byteAt 0xD3 10 with poll := true }] }) (fun t => t.ch[4] == 100) = true ∧
    answers (step { s with inputs := [pollIn] }) (fun t => t.ch[4] == 100) = true := by decide +kernel

/-- A byte in mid-frame, a valid frame of another type, and a reset step, where only the RSSI source may differ. -/
theorem witness_ConfigInputsSampledWhereStated :
    answers (step (drive (received [0xC8]) (byteAt 0x02 10))) (fun t => t.out.rxEvent != .frameValid) = true ∧
    answers (step (beforeLast vB1)) (fun t => t.fb.read 2 != Params.ref.typeLinkStats) = true ∧
    (byteAt 0x02 10).rst = false ∧
    answers (step (drive (received [0xC8]) resetIn)) (fun t => t.out.rxEvent != .frameValid) = true := by decide +kernel

theorem witness_StepKeepsInvariants :
    (drive (received vB1) resetIn).currentInput.rst = true ∧
    answers (step (drive (received vB1) resetIn)) (fun t => t.pos == 0) = true ∧
    BlockInv (beforeLast vD2) ∧ answers (step (beforeLast vD2)) (fun t => t.ready) = true := by decide +kernel

/-- The state of V-B6 with L = FF before its third byte. -/
theorem witness_CursorInvariantAsWorded :
    CursorAsWorded (drive (received [0xC8, 0xFF]) (byteAt 0x16 20)) ∧
    answers (step (drive (received [0xC8, 0xFF]) (byteAt 0x16 20))) (fun t => t.pos == 3) = true := by decide +kernel

theorem witness_BuffersStayCanonical :
    BuffersInv (beforeLast vB1) ∧ answers (step (beforeLast vB1)) (fun t => t.fb.read 64 == 0) = true := by decide +kernel

theorem witness_ParametersAreFixed :
    answers (exec .poll (waiting vD2)) (fun t => !t.ready) = true ∧
    answers (step (beforeLast vCommand)) (fun t => t.out.dispValid) = true := by decide +kernel

theorem witness_CrcIsLinear : ([0x16, 0x00] : List Byte).length = ([0xFF, 0xFF] : List Byte).length := by decide

theorem witness_CrcDetectsOneByte : (0x16 : Byte) ≠ 0x17 := by decide

/-- The covered region of S = 4 and of S = 9. -/
theorem witness_FrameCrcCoversTypeAndPayload :
    let s := received vCommand
    let bytes : List Byte := [0x32, 0xC8, 0xEA, 0x10, 0x01, 0xBA]
    bytes.length = (5 : PayloadLen).val + 1 ∧ (∀ j (h : j < bytes.length), bytes[j] = s.fb.read (2 + j)) ∧
    ([0x32] : List Byte).length = (0 : PayloadLen).val + 1 ∧
    (∀ j (h : j < ([0x32] : List Byte).length), ([0x32] : List Byte)[j] = s.fb.read (2 + j)) := by decide +kernel

theorem witness_CmdCrcCoversTypeAndBody :
    let s := received vCommand
    let body : List Byte := [0xC8, 0xEA, 0x10, 0x01]
    body.length = (5 : PayloadLen).val - 1 ∧ (∀ j (h : j < body.length), body[j] = s.fb.read (3 + j)) ∧
    ([] : List Byte).length = (0 : PayloadLen).val - 1 := by decide +kernel

theorem witness_HeaderIsNotCovered :
    (0 : BufIdx).toNat < 2 ∧ (1 : BufIdx).toNat < 2 ∧
    answers (exec (.frameCrc 0) { received vB1 with fb := (received vB1).fb.write 0 0xEE }) (fun t => t.crc.frameOk) = true ∧
    answers (exec (.cmdCrc 5) { received vCommand with fb := (received vCommand).fb.write 1 0xFF }) (fun t => t.crc.cmdOk)
      = true := by decide +kernel

/-- A byte in mid-frame, at cursor 0, and one after a timeout. -/
theorem witness_ByteStoredAndCursorAdvanced :
    ((4 : BufIdx) = cursorFor (received (vD2.take 4)) 30 ∧ 4 ≤ sizeFor (received (vD2.take 4)) 4 ∧
      sizeFor (received (vD2.take 4)) 4 ≤ 64 ∧ (4 : BufIdx).toNat + 1 < sizeFor (received (vD2.take 4)) 4) ∧
    ((0 : BufIdx) = cursorFor State.reset 0 ∧ 4 ≤ sizeFor State.reset 0 ∧ sizeFor State.reset 0 ≤ 64 ∧
      (0 : BufIdx).toNat + 1 < sizeFor State.reset 0) ∧
    (0 : BufIdx) = cursorFor (received (vD2.take 4)) 1101 := by decide +kernel

/-- Elapsed 1100 and 1101, with and without a partial frame. -/
theorem witness_TimeoutRestartsFrame :
    ((1100 : Stamp) - (received [0xC8]).tStart).toNat ≤ 1100 ∧ 1100 < ((1101 : Stamp) - (received [0xC8]).tStart).toNat ∧
    (received [0xC8]).pos ≠ 0 ∧ State.reset.pos = 0 ∧ 1100 < ((5000 : Stamp) - State.reset.tStart).toNat := by decide +kernel

/-- Sizes 3 and 65. -/
theorem witness_FramingErrorDropsByte :
    sizeFor (received [0xC8, 0x01, 0x16]) (cursorFor (received [0xC8, 0x01, 0x16]) 30) = 3 ∧
    sizeFor (received [0xC8, 0x3F, 0x16]) (cursorFor (received [0xC8, 0x3F, 0x16]) 30) = 65 := by decide +kernel

theorem witness_CrcErrorDiscardsFrame :
    let s := received vB7.dropLast
    (3 : BufIdx) = cursorFor s 10 ∧ sizeFor s 3 = (0 : PayloadLen).val + 4 ∧ (0 : PayloadLen).val + 4 ≤ (3 : BufIdx).toNat + 1 ∧
    crc8 0xD5 ((s.fb.write 3 0x00).slice 2 2) ≠ (s.fb.write 3 0x00).read 3 := by decide +kernel

theorem witness_ValidFrameRunsItsRoute :
    let s := received vB1.dropLast
    (3 : BufIdx) = cursorFor s 10 ∧ sizeFor s 3 = (0 : PayloadLen).val + 4 ∧ (0 : PayloadLen).val + 4 ≤ (3 : BufIdx).toNat + 1 ∧
    crc8 0xD5 ((s.fb.write 3 0xD3).slice 2 2) = (s.fb.write 3 0xD3).read 3 := by decide +kernel

theorem witness_FrameEndReturnsToStart :
    answers (step (beforeLast vB1)) (fun t => t.out.rxEvent == .frameValid) = true ∧
    answers (step (beforeLast vB7)) (fun t => t.out.rxEvent == .crcError) = true ∧
    answers (step (drive (received [0xC8, 0x00, 0x16]) (byteAt 0xAA 30))) (fun t => t.out.rxEvent == .framingError) = true ∧
    answers (step (drive (received [0xC8]) (byteAt 0x02 10))) (fun t => t.out.rxEvent == .stored) = true ∧
    answers (step (drive (received [0xC8]) (byteAt 0x02 1101))) (fun t => t.out.rxEvent == .storedResync) = true := by
  decide +kernel

/-- The hundredth failure, and the ninety-ninth, which requests nothing. -/
theorem witness_FallbackExactlyAtThreshold :
    answers (step { beforeLast vB7 with errCnt := 99 }) (fun t => t.out.fallbackReq) = true ∧
    answers (step { beforeLast vB7 with errCnt := 98 }) (fun t => !t.out.fallbackReq && t.errCnt == 99) = true ∧
    answers (step (withoutV3 { beforeLast vB7 with errCnt := 99 })) (fun t => !t.out.fallbackReq) = true := by decide +kernel

theorem witness_CounterFollowsEvents :
    (beforeLast vB7).currentInput.rst = false ∧ (beforeLast vB7).params.v3 = true ∧
    answers (step { beforeLast vB7 with errCnt := 98 }) (fun t => t.out.rxEvent == .crcError && t.errCnt == 99) = true ∧
    answers (step { beforeLast vB1 with errCnt := 98 }) (fun t => t.out.rxEvent == .frameValid) = true ∧
    answers (step { drive (received [0xC8]) (byteAt 0x02 1101) with errCnt := 98 })
      (fun t => t.out.rxEvent == .storedResync) = true ∧
    answers (step { drive (received [0xC8]) Inputs.zero with errCnt := 98 }) (fun t => t.out.rxEvent == .idle) = true := by
  decide +kernel

theorem witness_ResyncIsNotFailure :
    answers (step (drive { received [0xC8] with errCnt := 7 } (byteAt 0x02 1101)))
      (fun t => t.out.rxEvent == .storedResync) = true := by decide +kernel

theorem witness_VersionTwoNeverCounts :
    (withoutV3 (beforeLast vB7)).params.v3 = false ∧ (withoutV3 (beforeLast vB7)).errCnt = 0 ∧
    (withoutV3 (beforeLast vB7)).currentInput.rst = false ∧
    answers (step (withoutV3 (beforeLast vB7))) (fun t => t.out.rxEvent == .crcError) = true := by decide +kernel

theorem witness_BufferChangesAtCursorOnly :
    (beforeLast vB1).currentInput.rst = false ∧ answers (step (beforeLast vB1)) (fun t => t.ready) = true ∧
    2 ≠ (cursorFor (beforeLast vB1) (beforeLast vB1).currentInput.tsIn).toNat ∧
    (drive (waiting vB1) pollIn).currentInput.byteValid = false ∧
    answers (step (drive (waiting vB1) pollIn)) (fun t => !t.ready) = true := by decide +kernel

/-- Two steps with one byte leave index 1 alone. -/
theorem witness_DispatchedFrameStaysReadable :
    let s := { received vB1 with pos := 0, inputs := [byteAt 0xC8 20, pollIn] ++ [] }
    s.pos = 0 ∧ s.inputs = [byteAt 0xC8 20, pollIn] ++ [] ∧ (∀ x ∈ [byteAt 0xC8 20, pollIn], x.rst = false) ∧
    ([byteAt 0xC8 20, pollIn].filter (·.byteValid)).length ≤ 1 ∧
    answers (Host.Core.run core 2 s) (fun u => u.out.pollDone) = true := by decide +kernel

theorem witness_ChannelsChangeByPollOnly :
    (drive (waiting vB1) Inputs.zero).currentInput.rst = false ∧
    (drive (waiting vB1) Inputs.zero).currentInput.poll = false ∧
    answers (step (drive (waiting vB1) Inputs.zero)) (fun t => t.ready) = true ∧
    (drive State.reset pollIn).ready = false ∧
    answers (step (drive State.reset pollIn)) (fun t => t.out.pollDone) = true := by decide +kernel

/-- The four bytes of V-B1, the last exactly 1100 microseconds after the first. -/
theorem witness_FrameCompletesExactlyOnce :
    let x := byteAt 0xC8 100
    let xs := [byteAt 0x02 110, { byteAt 0x16 120 with poll := true }, byteAt 0xD3 1200]
    let s := { State.reset with inputs := (x :: xs) ++ [] }
    ([] : List Byte).length ≤ 60 ∧ s.pos = 0 ∧ s.inputs = (x :: xs) ++ [] ∧
    (x :: xs).map (·.byteIn) = frameBytes 0xC8 0x16 [] ∧
    (∀ y ∈ x :: xs, y.rst = false ∧ y.byteValid = true ∧ (y.tsIn - x.tsIn).toNat ≤ 1100) := by decide +kernel

theorem witness_ValidFrameRoutedOrFiltered :
    answers (step (beforeLast vB1)) (fun t => t.out.rxEvent == .frameValid && t.out.dispValid) = true ∧
    answers (step (beforeLast vUnknown)) (fun t => t.out.rxEvent == .frameValid && !t.out.dispValid) = true ∧
    answers (step (beforeLast vB7)) (fun t => t.out.rxEvent != .frameValid) = true := by decide +kernel

/-- RC_FIXED at both addresses. -/
theorem witness_RcFixedRoute :
    (received vB1).fb.read 0 = (received vB1).params.addrFc ∧
    (received [0xEA, 0x02, 0x16, 0xD3]).fb.read 0 ≠ (received [0xEA, 0x02, 0x16, 0xD3]).params.addrFc := by decide +kernel

/-- RC_SUBSET in its three cases. -/
theorem witness_RcSubsetRoute :
    ((received vS4).params.v3 = true ∧ (received vS4).fb.read 0 = (received vS4).params.addrFc) ∧
    ((received vLinkTxEA).params.v3 = true ∧ (received vLinkTxEA).fb.read 0 ≠ (received vLinkTxEA).params.addrFc) ∧
    (withoutV3 (received vS4)).params.v3 = false := by decide +kernel

theorem witness_MspRoutes :
    (Instr.mspReq 4 = .mspReq 4 ∨ Instr.mspReq 4 = .mspWrite 4) ∧ (Instr.mspWrite 0 = .mspReq 0 ∨ Instr.mspWrite 0 = .mspWrite 0) ∧
    (received vMspReq).params.telem = true ∧ (withoutTelem (received vMspReq)).params.telem = false := by decide +kernel

theorem witness_PingAndDisplayportRoutes :
    ((Instr.devicePing 2 = .devicePing 2 ∧ RouteCode.devicePing = .devicePing) ∨
      (Instr.devicePing 2 = .displayport 2 ∧ RouteCode.devicePing = .displayport)) ∧
    ((Instr.displayport 60 = .devicePing 60 ∧ RouteCode.displayport = .devicePing) ∨
      (Instr.displayport 60 = .displayport 60 ∧ RouteCode.displayport = .displayport)) ∧
    (received vPing).params.telem = true ∧ (withoutTelem (received vPing)).params.telem = false := by decide +kernel

theorem witness_LinkStatsRoute :
    (10 : PayloadLen) = (received vLink).params.linkStatsLen ∧ (9 : PayloadLen) ≠ (received vLinkShort).params.linkStatsLen ∧
    (11 : PayloadLen) ≠ (received vLinkShort).params.linkStatsLen := by decide +kernel

theorem witness_LinkStatsRxTxRoutes :
    ((received vLinkRx).params.v3 = true) ∧
    ((received vLinkTx).params.v3 = true ∧ (received vLinkTx).fb.read 0 = (received vLinkTx).params.addrFc) ∧
    ((received vLinkTxEA).params.v3 = true ∧ (received vLinkTxEA).fb.read 0 ≠ (received vLinkTxEA).params.addrFc) ∧
    (withoutV3 (received vLinkTx)).params.v3 = false := by decide +kernel

/-- The hypotheses of CommandRoute on a frame with body `body`, P = 5. -/
def commandWitness (frame body : List Byte) : Prop :=
  body.length = (5 : PayloadLen).val - 1 ∧ (∀ j (h : j < body.length), body[j] = (received frame).fb.read (3 + j)) ∧
  (received frame).params.v3 = true ∧ (withoutV3 (received frame)).params.v3 = false

/-- V-G: a routed command, a wrong inner CRC, a wrong address byte. -/
theorem witness_CommandRoute :
    (commandWitness vCommand [0xC8, 0xEA, 0x10, 0x01] ∧
      crc8 0xBA [0x32, 0xC8, 0xEA, 0x10, 0x01] = (received vCommand).fb.read 7 ∧
      (received vCommand).fb.read 3 = (received vCommand).params.cmdAddrValue) ∧
    (commandWitness vCommandCrc [0xC8, 0xEA, 0x10, 0x01] ∧
      crc8 0xBA [0x32, 0xC8, 0xEA, 0x10, 0x01] ≠ (received vCommandCrc).fb.read 7) ∧
    (commandWitness vCommandAddr [0xEC, 0xEA, 0x10, 0x01] ∧
      crc8 0xBA [0x32, 0xEC, 0xEA, 0x10, 0x01] = (received vCommandAddr).fb.read 7 ∧
      (received vCommandAddr).fb.read 3 ≠ (received vCommandAddr).params.cmdAddrValue) := by
  unfold commandWitness; decide +kernel

theorem witness_TypeByteSelectsItsArm : Params.ref.Valid ∧ (0x99 : Byte) ∉ Params.ref.typeCodes := by decide

theorem witness_AddressCheckedForThreeTypesOnly :
    answers (exec (.command 5) (received vCommand)) (fun t => t.out.dispValid) = true ∧
    answers (exec (.command 5) { received vCommand with fb := (received vCommand).fb.write 0 0xEA })
      (fun u => u.out.dispValid) = true := by decide +kernel

theorem witness_PollPending : State.reset.ready = false := by decide

theorem witness_PollDecodesFixedFormat :
    (waiting vD2).ready = true ∧ (waiting vD2).snap.read 2 = (waiting vD2).params.typeRc := by decide +kernel

/-- V-S4 (two fields from channel 4), a payload-less subset frame (no field), and a start at channel 31. -/
theorem witness_PollDecodesSubsetFormat :
    ((waiting vS4).ready = true ∧ (waiting vS4).params.v3 = true ∧ (waiting vS4).params.typeRc ≠ (waiting vS4).params.typeSubset ∧
      (waiting vS4).snap.read 2 = (waiting vS4).params.typeSubset ∧ 4 = ((waiting vS4).snap.read 1).toNat - 2 ∧
      4 = ((waiting vS4).snap.read 3).toNat % 32 ∧ 2 = (if 4 = 0 then 0 else (8 * 4 - 5) / 11)) ∧
    ((waiting [0xC8, 0x02, 0x17, 0x06]).snap.read 2 = (waiting vS4).params.typeSubset ∧
      0 = ((waiting [0xC8, 0x02, 0x17, 0x06]).snap.read 1).toNat - 2) ∧
    31 = ((waiting [0xC8, 0x04, 0x17, 0xBF, 0x00, 0xFD]).snap.read 3).toNat % 32 := by decide +kernel

/-- A link-statistics byte, and the subset type without version 3. -/
theorem witness_PollOtherTypeWritesNoChannel :
    ((waiting vLink).ready = true ∧ (waiting vLink).snap.read 2 ≠ (waiting vLink).params.typeRc ∧
      (waiting vLink).snap.read 2 ≠ (waiting vLink).params.typeSubset) ∧
    ((withoutV3 (waiting vS4)).ready = true ∧ (withoutV3 (waiting vS4)).params.v3 = false ∧
      (withoutV3 (waiting vS4)).snap.read 2 ≠ (withoutV3 (waiting vS4)).params.typeRc) := by decide +kernel

theorem witness_FixedFormatRoundTrip :
    let v := Vector.ofFn fun i : Fin 16 => BitVec.ofNat 11 i.val
    (waiting vD2).ready = true ∧ (waiting vD2).snap.read 2 = (waiting vD2).params.typeRc ∧
    (∀ j, j < 22 → (packFixed v)[j]? = some ((waiting vD2).snap.read (3 + j))) := by decide +kernel

theorem witness_SecondPollIsPending :
    answers (exec .poll (waiting vD2)) (fun t => !t.ready) = true ∧
    State.reset.ready = false ∧ (drive State.reset pollIn).currentInput.rst = false ∧
    answers (step (drive State.reset pollIn)) (fun t => decide (¬ TookRcFrame t)) = true := by decide +kernel

theorem witness_DecodeOfEncode :
    Params.ref.Valid ∧ (Instr.command 60).wellFormed Params.ref = true ∧ (Instr.unknownType 0x00).wellFormed Params.ref = true := by
  decide

end Sys2Proof.Tests
end

section
/-! PROOFS. Scope of one step (00_scope.md): the parameters are fixed (R8), and BYTE_IN and POLL of one step are independent
(R13, R55, R60). -/

namespace Sys2Proof.Machine

/-! ## Parameters -/

@[simp] theorem filterFrame_params (r : FiltReason) (s : State) : (filterFrame r s).params = s.params := rfl

@[simp] theorem acceptRc_params (r : RouteCode) (P : PayloadLen) (s : State) : (acceptRc r P s).params = s.params := rfl

@[simp] theorem gatedBy_params (enabled : Bool) (s t : State) :
    (gatedBy enabled s t).params = if enabled then t.params else s.params := by
  cases enabled <;> rfl

@[simp] theorem commandChecked_params (P : PayloadLen) (s : State) : (commandChecked P s).params = s.params := by
  unfold commandChecked
  split
  · rfl
  · split <;> rfl

/-- No operation writes the parameters (R8). -/
theorem exec_params {i : Instr} {s t : State} (h : exec i s = .next t) : t.params = s.params := by
  cases i with
  | byteIn b ts r => exact (execByteIn_frame h).1
  | poll =>
    obtain ⟨-, h'⟩ | ⟨-, h'⟩ := execPoll_cases s <;> rw [exec_poll, h'] at h <;> cases h <;> rfl
  | rcFixed | linkStats => cases h; split <;> rfl
  | rcSubset | linkStatsTx => cases h; simp [apply_ite State.params]
  | mspReq | mspWrite | devicePing | displayport | linkStatsRx | command => cases h; simp
  | reset | nop | readCh | fbRead | unknownType | frameCrc | cmdCrc => cases h; rfl

/-- A sequence of operations reaches a next state only through a next state of its first part. -/
theorem andThen_eq_next {o : Host.Outcome State Fault Refusal} {f : State → Host.Outcome State Fault Refusal}
    {t : State} : andThen o f = .next t ↔ ∃ u, o = .next u ∧ f u = .next t := by
  cases o <;> simp [andThen]

/-- The operations of one step keep the parameters, one after the other. -/
theorem runOps_params {is : List Instr} {s t : State} (h : runOps exec is s = .next t) : t.params = s.params := by
  induction is generalizing s with
  | nil => cases h; rfl
  | cons i is ih =>
    obtain ⟨u, hu, ht⟩ := andThen_eq_next.1 h
    exact (ih ht).trans (exec_params hu)

/-- Settles O19: every operation keeps the parameters, and a step is a list of operations after `beginStep`. -/
theorem parametersAreFixed : Obligations.ParametersAreFixed :=
  ⟨fun _ _ _ => exec_params, fun s _ h => (runOps_params h).trans s.beginStep_params⟩

/-! ## The byte's side of the state -/

/-- What BYTE_IN can see of a state, and what O11 compares of its result: everything that POLL, the read ports and the input
queue write is masked. -/
def State.byteSide (s : State) : State :=
  { s with
    ready := false
    ch := Vector.replicate 16 0
    inputs := []
    hostClock := 0
    out := { s.out with pollDone := false, pollStatus := .pending, chData := 0, fbRdData := 0 } }

/-- The byte's side of an outcome. -/
def outcomeByteSide (o : Host.Outcome State Fault Refusal) : Host.Outcome State Fault Refusal :=
  andThen o fun t => .next t.byteSide

@[simp] theorem outcomeByteSide_next (t : State) : outcomeByteSide (.next t) = .next t.byteSide := rfl

section
variable (s : State)

@[simp] theorem State.byteSide_params : s.byteSide.params = s.params := rfl
@[simp] theorem State.byteSide_fb : s.byteSide.fb = s.fb := rfl
@[simp] theorem State.byteSide_crc : s.byteSide.crc = s.crc := rfl
@[simp] theorem State.byteSide_workingPos (ts : Stamp) : s.byteSide.workingPos ts = s.workingPos ts := rfl
@[simp] theorem State.byteSide_resynced (ts : Stamp) : s.byteSide.resynced ts = s.resynced ts := rfl

/-! Everything BYTE_IN does before DISPATCH commutes with the mask. -/

theorem State.stampStart_byteSide (ts : Stamp) : s.byteSide.stampStart ts = (s.stampStart ts).byteSide := by
  unfold State.stampStart
  rw [apply_ite State.byteSide]
  rfl

theorem State.countFailure_byteSide : s.byteSide.countFailure = s.countFailure.byteSide := by
  unfold State.countFailure
  simp only [apply_ite State.byteSide]
  rfl

theorem State.clearFailures_byteSide : s.byteSide.clearFailures = s.clearFailures.byteSide := by
  unfold State.clearFailures
  rw [apply_ite State.byteSide]
  rfl

theorem framingError_byteSide : framingError s.byteSide = (framingError s).byteSide :=
  ((s.setPos 0).emitRx .framingError).countFailure_byteSide

theorem crcError_byteSide : crcError s.byteSide = (crcError s).byteSide :=
  (s.emitRx .crcError).countFailure_byteSide

theorem frameValid_byteSide : frameValid s.byteSide = (frameValid s).byteSide :=
  (s.emitRx .frameValid).clearFailures_byteSide

/-! An arm of the dispatcher reads only the byte's side; beyond that side it writes at most the latch. -/

theorem gatedBy_byteSide (enabled : Bool) (t : State) :
    (gatedBy enabled s t).byteSide = gatedBy enabled s.byteSide t.byteSide := by
  cases enabled <;> rfl

theorem commandChecked_byteSide (P : PayloadLen) :
    (commandChecked P s).byteSide = commandChecked P s.byteSide := by
  unfold commandChecked
  simp only [apply_ite State.byteSide]
  rfl

theorem dispatch_byteSide (P : PayloadLen) (r : Bool) :
    outcomeByteSide (dispatch P r s.byteSide) = outcomeByteSide (dispatch P r s) := by
  unfold dispatch
  rw [s.byteSide_params, s.byteSide_fb]
  cases decodeKind s.params (s.fb.read 2) with
  | rcFixed | linkStats =>
    simp only [execRcFixed, execLinkStats, outcomeByteSide_next, apply_ite State.byteSide]
    rfl
  | rcSubset | linkStatsTx =>
    simp only [execRcSubset, execLinkStatsTx, outcomeByteSide_next, gatedBy_byteSide, apply_ite State.byteSide]
    rfl
  | command =>
    simp only [execCommand, outcomeByteSide_next, gatedBy_byteSide, commandChecked_byteSide]
    rfl
  | mspReq | mspWrite | devicePing | displayport | linkStatsRx =>
    simp only [execMspReq, execMspWrite, execDevicePing, execDisplayport, execLinkStatsRx, outcomeByteSide_next,
      gatedBy_byteSide]
    rfl
  | unknownType => rfl

theorem completeFrame_byteSide (P : PayloadLen) (r : Bool) :
    outcomeByteSide (completeFrame P r s.byteSide) = outcomeByteSide (completeFrame P r s) := by
  have hu : (s.byteSide.setPos 0).evalFrameCrc P = ((s.setPos 0).evalFrameCrc P).byteSide := rfl
  unfold completeFrame
  simp only [hu, State.byteSide_crc]
  split
  · rw [frameValid_byteSide, dispatch_byteSide]
  · rw [crcError_byteSide]; rfl

/-- BYTE_IN does the same to the byte's side whatever the rest of the state holds. -/
theorem execByteIn_byteSide (b : Byte) (ts : Stamp) (r : Bool) :
    outcomeByteSide (execByteIn b ts r s.byteSide) = outcomeByteSide (execByteIn b ts r s) := by
  have hst : (s.byteSide.stampStart ts).storeByte (s.workingPos ts) b =
      ((s.stampStart ts).storeByte (s.workingPos ts) b).byteSide := by
    rw [State.stampStart_byteSide]; rfl
  unfold execByteIn
  simp only [State.byteSide_workingPos, State.byteSide_resynced, State.byteSide_fb, hst]
  cases payloadLenOf (frameSizeAt s.fb (s.workingPos ts)) with
  | none => dsimp only; rw [State.stampStart_byteSide, framingError_byteSide]; rfl
  | some P =>
    dsimp only
    split
    · rfl
    · exact completeFrame_byteSide _ P r

/-- The byte's side as BYTE_IN finds it: the start-of-step state with the outputs idle. -/
def State.byteStart : State :=
  { s.byteSide with out := Outputs.idle, crc := CrcWires.idle }

/-- The read ports and POLL leave the byte's side alone. -/
theorem State.beforeByte_byteSide (x : Inputs) : (s.beforeByte x).byteSide = s.byteStart := by
  have hreads : (s.afterReads x).byteSide = s.byteStart := by
    unfold State.afterReads State.beginStep
    split <;> rfl
  rw [← hreads]
  unfold State.beforeByte
  generalize s.afterReads x = a
  split
  · split <;> rfl
  · rfl

end

/-- The byte's side at the end of a step is a function of that side at its start and of the byte: the poll strobe, the read
indices and the rest of the state have no part in it. -/
theorem step_byteSide {s t : State} {x : Inputs} (hx : s.currentInput = x) (hr : x.rst = false) (h : step s = .next t) :
    .next t.byteSide =
      if x.byteValid then outcomeByteSide (execByteIn x.byteIn x.tsIn x.cfgRssiSrcCrsf s.byteStart)
      else .next s.byteStart := by
  subst hx
  rw [← outcomeByteSide_next, ← h, step_running s hr, ← s.beforeByte_byteSide s.currentInput]
  split
  · rw [execByteIn_byteSide]
  · rfl

/-! ## The poll's side of the state -/

/-- POLL's results stand at the end of the step as POLL left them, with a byte or without. -/
theorem step_pollSide {s t : State} {x : Inputs} (hx : s.currentInput = x) (hr : x.rst = false) (h : step s = .next t) :
    t.ch = (if x.poll && s.ready then decodeSnapshot s else s.ch) ∧
    t.out.pollDone = x.poll ∧
    t.out.pollStatus = (if x.poll && s.ready then .complete else .pending) := by
  subst hx
  obtain ⟨-, rfl⟩ | ⟨-, hbyte⟩ := step_running_cases hr h
  · simp
  · obtain ⟨-, hch, -, -, hdone, hstatus, -⟩ := execByteIn_frame hbyte
    simp [hch, hdone, hstatus]

/-! ## The claim -/

/-- Settles O11: steps with the same byte end in the same byte's side (`step_byteSide`), steps with the same poll strobe in
the same channels and poll outputs (`step_pollSide`). -/
theorem byteAndPollIndependent : Obligations.ByteAndPollIndependent := by
  intro s t u x y xs hxr hyr ht hu
  refine ⟨fun hv hb hts hrssi => ?_, fun hp => ?_⟩
  · have hbyte := step_byteSide (x := x) rfl hxr ht
    rw [hv, hb, hts, hrssi] at hbyte
    have hside : t.byteSide = u.byteSide :=
      Host.Outcome.next.inj (hbyte.trans (step_byteSide (x := y) rfl hyr hu).symm)
    simp only [State.byteSide, State.mk.injEq, Outputs.mk.injEq] at hside
    simp only [hside, and_self]
  · obtain ⟨hch, hdone, hstatus⟩ := step_pollSide (x := x) rfl hxr ht
    obtain ⟨hch', hdone', hstatus'⟩ := step_pollSide (x := y) rfl hyr hu
    rw [hch, hdone, hstatus, hch', hdone', hstatus', hp]
    exact ⟨rfl, rfl, rfl⟩

end Sys2Proof.Machine
end

section
/-! PROOFS. What the state keeps from step to step (10_state.md): the two buffers (R21, R26), the consecutive-error counter
(R25), the channel registers (R28), and the state right after reset (R37). -/

namespace Sys2Proof.Machine

/-! ## The buffers -/

/-- What BYTE_IN can do to the two buffers: at most one byte is written, at the working cursor (R21), and the snapshot stays
or takes the whole buffer (R26). -/
theorem execByteIn_buffers {b : Byte} {ts : Stamp} {r : Bool} {s t : State} (h : execByteIn b ts r s = .next t) :
    (t.fb = s.fb ∨ t.fb = s.fb.write (cursorFor s ts) b) ∧ (t.snap = s.snap ∨ t.snap = t.fb) := by
  obtain ⟨-, hfb, -, hsnap, -⟩ | ⟨_, -, hfb, hend⟩ := execByteIn_spec h
  · exact ⟨.inl hfb, .inl hsnap⟩
  · refine ⟨.inr hfb, ?_⟩
    obtain ⟨-, -, hsnap, -⟩ | ⟨-, -, ⟨-, -, -, -, ⟨hsnap, -⟩ | ⟨hsnap, -⟩, -⟩ | ⟨hsnap, -⟩⟩ := hend
    · exact .inl hsnap
    · exact .inl hsnap
    · exact .inr hsnap
    · exact .inl hsnap

/-- What a step without reset can do to the two buffers: the frame buffer changes in a step with a byte only, and then by one
write at the working cursor of the start-of-step state. -/
theorem step_buffers {s t : State} (hr : s.currentInput.rst = false) (h : step s = .next t) :
    (t.fb = s.fb ∨ s.currentInput.byteValid = true ∧
      t.fb = s.fb.write (cursorFor s s.currentInput.tsIn) s.currentInput.byteIn) ∧
    (t.snap = s.snap ∨ t.snap = t.fb) := by
  obtain ⟨-, rfl⟩ | ⟨hv, hbyte⟩ := step_running_cases hr h
  · simp
  · obtain ⟨hfb, hsnap⟩ := execByteIn_buffers hbyte
    rw [State.beforeByte_fb, cursorFor_beforeByte] at hfb
    rw [State.beforeByte_snap] at hsnap
    exact ⟨hfb.imp_right fun hw => ⟨hv, hw⟩, hsnap⟩

/-- A reset step empties both buffers; any other step leaves each as it was, writes one byte, or copies one to the other. -/
theorem step_keeps_buffersInv {s t : State} (hs : BuffersInv s) (h : step s = .next t) : BuffersInv t := by
  obtain ⟨hfb, hsnap⟩ := hs
  cases hr : s.currentInput.rst with
  | true => rw [step_resetting hr] at h; cases h; exact ⟨rfl, rfl⟩
  | false =>
    obtain ⟨hfb', hsnap'⟩ := step_buffers hr h
    have hwf : t.fb.wf = true := by
      obtain hsame | ⟨-, hwrite⟩ := hfb'
      · rwa [hsame]
      · rw [hwrite]; exact Memory.wf_write _ _ hfb
    refine ⟨hwf, ?_⟩
    obtain hsame | hcopy := hsnap'
    · rwa [hsame]
    · rwa [hcopy]

/-- Settles O18: every step keeps the canonical form (`step_keeps_buffersInv`), in which nothing stands at 64 or beyond. -/
theorem buffersStayCanonical : Obligations.BuffersStayCanonical := by
  intro s t hs h
  obtain ⟨hfb, hsnap⟩ := step_keeps_buffersInv hs h
  exact ⟨⟨hfb, hsnap⟩, fun _ ha => ⟨Memory.read_out_of_range hfb ha, Memory.read_out_of_range hsnap ha⟩⟩

/-- Settles O37: the one write of a step (`step_buffers`) needs a byte and goes to the working cursor. -/
theorem bufferChangesAtCursorOnly : Obligations.BufferChangesAtCursorOnly := by
  intro s t hr h a ha
  obtain ⟨hsame | ⟨hv, hwrite⟩, -⟩ := step_buffers hr h
  · rw [hsame]
  · have hne : a ≠ (cursorFor s s.currentInput.tsIn).toNat := ha.resolve_left (by simp [hv])
    rw [hwrite, Memory.read_write_other _ _ _ _ hne.symm]

/-! ## The consecutive-error counter -/

/-- BYTE_IN's event and what goes with it in the counter and `fallback_req` (R127, R129, R134): a stored byte changes
neither, a valid frame clears the counter with version 3, a failed one is counted. -/
theorem execByteIn_counter {b : Byte} {ts : Stamp} {r : Bool} {s t : State} (h : execByteIn b ts r s = .next t) :
    ((t.out.rxEvent = .stored ∨ t.out.rxEvent = .storedResync) ∧ t.errCnt = s.errCnt ∧
      t.out.fallbackReq = s.out.fallbackReq) ∨
    (t.out.rxEvent = .frameValid ∧ t.errCnt = (if s.params.v3 then 0 else s.errCnt) ∧
      t.out.fallbackReq = s.out.fallbackReq) ∨
    ((t.out.rxEvent = .crcError ∨ t.out.rxEvent = .framingError) ∧ CountedFailure s t) := by
  obtain ⟨-, -, -, -, -, hcount, hout, -⟩ | ⟨_, -, -, hend⟩ := execByteIn_spec h
  · exact .inr (.inr ⟨.inr (by rw [hout]), hcount⟩)
  · obtain ⟨-, -, -, -, hcnt, -, hout⟩ | ⟨-, -, ⟨hev, hcnt, hreq, -⟩ | ⟨-, -, hcount, -, hout⟩⟩ := hend
    · refine .inl ⟨?_, hcnt, by rw [hout]⟩
      rw [hout]
      split
      · exact .inr rfl
      · exact .inl rfl
    · exact .inr (.inl ⟨hev, hcnt, hreq⟩)
    · exact .inr (.inr ⟨.inl (by rw [hout]), hcount⟩)

/-- A step's event and what goes with it in the counter and `fallback_req`, outside reset: as for BYTE_IN, on the state after
POLL, whose `fallback_req` is idle; without a byte the event is IDLE and neither changes. -/
theorem step_counter {s t : State} (hr : s.currentInput.rst = false) (h : step s = .next t) :
    ((t.out.rxEvent = .idle ∨ t.out.rxEvent = .stored ∨ t.out.rxEvent = .storedResync) ∧ t.errCnt = s.errCnt ∧
      t.out.fallbackReq = false) ∨
    (t.out.rxEvent = .frameValid ∧ t.errCnt = (if s.params.v3 then 0 else s.errCnt) ∧ t.out.fallbackReq = false) ∨
    ((t.out.rxEvent = .crcError ∨ t.out.rxEvent = .framingError) ∧
      CountedFailure (s.beforeByte s.currentInput) t) := by
  have hidle : (s.beforeByte s.currentInput).out.fallbackReq = false := by
    rw [State.beforeByte_out]; rfl
  obtain ⟨-, rfl⟩ | ⟨-, hbyte⟩ := step_running_cases hr h
  · refine .inl ⟨.inl ?_, State.beforeByte_errCnt s _, hidle⟩
    rw [State.beforeByte_out]; rfl
  · have hcounter := execByteIn_counter hbyte
    rw [hidle, State.beforeByte_params, State.beforeByte_errCnt] at hcounter
    exact hcounter.imp_left (And.imp_left .inr)

/-- With version 3, a counted failure below the threshold raises the counter by one (R129). -/
theorem CountedFailure.errCnt_succ {s t : State} (h : CountedFailure s t) (hv : s.params.v3 = true)
    (hlt : s.errCnt.toNat < 99) : t.errCnt.toNat = s.errCnt.toNat + 1 := by
  rw [CountedFailure, if_pos hv, if_neg (by omega)] at h
  exact h.1

/-- Settles O34: each of the three kinds of event in `step_counter` meets its clause and excludes the other two. -/
theorem counterFollowsEvents : Obligations.CounterFollowsEvents := by
  intro s t hr hv h
  obtain ⟨hev, hcnt, -⟩ | ⟨hev, hcnt, -⟩ | ⟨hev, hcount⟩ := step_counter hr h
  · refine ⟨fun hvalid => ?_, fun hfail => ?_, fun _ => hcnt⟩
    · simp [hvalid] at hev
    · obtain hfail | hfail := hfail <;> simp [hfail] at hev
  · rw [if_pos hv] at hcnt
    simp [hev, hcnt]
  · refine ⟨fun hvalid => ?_, fun _ hlt => ?_, fun hquiet => ?_⟩
    · simp [hvalid] at hev
    · simpa using hcount.errCnt_succ (by simpa using hv) (by simpa using hlt)
    · obtain hev | hev := hev <;> simp [hev] at hquiet

/-! ## The channel registers -/

/-- Settles O39: the channels at the end of a step are POLL's (`step_pollSide`), and POLL writes them for a waiting frame
only. -/
theorem channelsChangeByPollOnly : Obligations.ChannelsChangeByPollOnly := by
  intro s t hr h hidle
  obtain ⟨hch, -⟩ := step_pollSide rfl hr h
  obtain hpoll | hready := hidle
  · simpa [hpoll] using hch
  · simpa [hready] using hch

/-! ## The state right after reset -/

/-- Settles O17: cursor and counter are 0, nothing waits, both buffers are empty, and REF's ten codes differ. -/
theorem resetStateMeetsInvariants : Obligations.ResetStateMeetsInvariants :=
  have hcursor : CursorInv State.reset := .inl (by decide)
  have hcounter : CounterInv State.reset := ⟨by decide, fun _ => rfl⟩
  have hsnapshot : SnapshotInv State.reset := fun hready => nomatch hready
  ⟨⟨hcursor, hcounter, hsnapshot, rfl, rfl⟩, by decide⟩

end Sys2Proof.Machine
end

section
/-! PROOFS. Memory (20_memory.md): what the frame-buffer read port shows (R57), and the latch and the snapshot under BYTE_IN
and POLL of one step (R58, R60). -/

namespace Sys2Proof.Machine

/-! ## The frame-buffer read port -/

/-- Settles O6: after the read ports `fb_rd_data` shows the start-of-step buffer, and RESET, POLL and BYTE_IN leave it so. -/
theorem fbReadShowsStartOfStep : Obligations.FbReadShowsStartOfStep := by
  refine ⟨fun _ _ => rfl, fun s t h => ?_⟩
  cases hr : s.currentInput.rst with
  | true => rw [step_resetting hr] at h; cases h; rfl
  | false =>
    obtain ⟨-, rfl⟩ | ⟨-, hbyte⟩ := step_running_cases hr h
    · simp
    · obtain ⟨-, -, -, -, -, -, -, hfbRd, -⟩ := execByteIn_frame hbyte
      simp [hfbRd]

/-! ## The latch and the snapshot -/

/-- BYTE_IN, on a state whose outputs show no RC-channel frame yet, takes one together with its snapshot and the latch, or
takes none and leaves both (R150, R152, R153). -/
theorem execByteIn_latch {b : Byte} {ts : Stamp} {r : Bool} {s t : State} (hs : ¬ TookRcFrame s)
    (h : execByteIn b ts r s = .next t) :
    (TookRcFrame t ∧ t.snap = t.fb ∧ t.ready = true) ∨ (¬ TookRcFrame t ∧ t.snap = s.snap ∧ t.ready = s.ready) := by
  obtain ⟨-, -, -, hsnap, hready, -, hout, -⟩ | ⟨_, -, -, hend⟩ := execByteIn_spec h
  · exact .inr ⟨by rwa [TookRcFrame, hout], hsnap, hready⟩
  · obtain ⟨-, -, hsnap, hready, -, -, hout⟩ | ⟨-, -, hdone⟩ := hend
    · exact .inr ⟨by rwa [TookRcFrame, hout], hsnap, hready⟩
    · obtain ⟨-, -, -, -, hdisp, -⟩ | ⟨hsnap, hready, -, -, hout⟩ := hdone
      · obtain ⟨hsnap, hready, hfixed, hsubset⟩ | ⟨hsnap, hready, -, hroute⟩ := hdisp
        · exact .inr ⟨not_or.2 ⟨hfixed, hsubset⟩, hsnap, hready⟩
        · exact .inl ⟨hroute.imp And.right fun hsub => hsub.2.2, hsnap, hready⟩
      · exact .inr ⟨by rwa [TookRcFrame, hout], hsnap, hready⟩

theorem State.beforeByte_not_tookRcFrame (s : State) (x : Inputs) : ¬ TookRcFrame (s.beforeByte x) := by
  simp [TookRcFrame, Outputs.idle]

/-- A step without reset takes an RC-channel frame, and then sets the latch and the snapshot; or it takes none, and then the
snapshot stays and only a poll clears the latch (R60). -/
theorem step_latch {s t : State} (hr : s.currentInput.rst = false) (h : step s = .next t) :
    (TookRcFrame t ∧ t.snap = t.fb ∧ t.ready = true) ∨
    (¬ TookRcFrame t ∧ t.snap = s.snap ∧ t.ready = (s.ready && !s.currentInput.poll)) := by
  have hs := s.beforeByte_not_tookRcFrame s.currentInput
  obtain ⟨-, rfl⟩ | ⟨-, hbyte⟩ := step_running_cases hr h
  · exact .inr ⟨hs, s.beforeByte_snap _, s.beforeByte_ready _⟩
  · simpa using execByteIn_latch hs hbyte

/-- After POLL nothing waits, and the channels hold the decoded snapshot if a frame waited (R180). -/
theorem execPoll_latch {s t : State} (h : execPoll s = .next t) :
    t.ready = false ∧ t.ch = (if s.ready then decodeSnapshot s else s.ch) := by
  obtain ⟨hready, hpoll⟩ | ⟨hready, hpoll⟩ := execPoll_cases s <;> rw [hpoll] at h <;> cases h <;> simp [hready]

/-- POLL with nothing waiting answers PENDING (R180). -/
theorem execPoll_of_not_ready {s : State} (hs : s.ready = false) : execPoll s = .next (s.emitPoll .pending) := by
  simp [execPoll, hs]

/-- Settles O10: latch and snapshot by `step_latch`, channels and poll outputs by `step_pollSide`, which decodes what POLL
alone decodes. -/
theorem latchCombinesSetAndPoll : Obligations.LatchCombinesSetAndPoll := by
  intro s p t hr hp h
  obtain ⟨hch, hdone, hstatus⟩ := step_pollSide rfl hr h
  obtain ⟨-, hpch⟩ := execPoll_latch hp
  have hchannels : t.ch = if s.currentInput.poll then p.ch else s.ch := by
    rw [hch, hpch]
    cases s.currentInput.poll <;> simp
  obtain ⟨htook, hsnap, hready⟩ | ⟨htook, hsnap, hready⟩ := step_latch hr h
  · exact ⟨by simp only [hready, htook, true_or], by rw [if_pos htook, hsnap], hchannels, hdone, hstatus⟩
  · exact ⟨by simp [hready, htook], by rw [if_neg htook, hsnap], hchannels, hdone, hstatus⟩

/-- Settles O58: POLL leaves nothing waiting, so the next one is PENDING; and with nothing waiting, only taking a frame
sets the latch (`step_latch`) and the step's poll decodes nothing (`step_pollSide`). -/
theorem secondPollIsPending : Obligations.SecondPollIsPending := by
  refine ⟨fun s t h => ?_, fun s t hs hr h hnot => ?_⟩
  · exact execPoll_of_not_ready (execPoll_latch h).1
  · obtain ⟨hch, -, hstatus⟩ := step_pollSide rfl hr h
    obtain ⟨htook, -⟩ | ⟨-, -, hready⟩ := step_latch hr h
    · exact absurd htook hnot
    · simp [hch, hstatus, hready, hs]

end Sys2Proof.Machine
end

section
/-! PROOFS. Encoding (30_encoding.md): each word decodes to the operation it was written for (R77, R78), a packed
fixed-format payload decodes to its channels (R75, R80), and which frame types look at the address byte (R79). -/

namespace Sys2Proof.Machine

/-! ## The fixed-format payload -/

/-- Bit b of packed byte j is payload bit 8·j + b, which R52 gives to channel k div 11. -/
theorem packFixed_getLsbD (v : Vector ChVal 16) {j b : Nat} (hj : j < 22) (hb : b < 8) :
    ((packFixed v)[j]?.getD 0).getLsbD b =
      (v.toList.getD ((8 * j + b) / 11) 0).getLsbD ((8 * j + b) % 11) := by
  simp only [packFixed, List.getElem?_map, List.getElem?_range hj, Option.map_some, Option.getD_some,
    BitVec.getLsbD_ofNat, hb, decide_true, Bool.true_and]
  exact (sum_bits (fun b => (v.toList.getD ((8 * j + b) / 11) 0).getLsbD ((8 * j + b) % 11)) 8).2 b hb

/-- Unpacking the packing of sixteen channels gives them back (R80, R183): bit j of channel i travels as payload bit
11·i + j. -/
theorem fixedDecode_packFixed {m : Memory} {v : Vector ChVal 16}
    (hm : ∀ j, j < 22 → (packFixed v)[j]? = some (m.read (3 + j))) : fixedDecode m = v := by
  refine Vector.ext fun i hi => BitVec.eq_of_getLsbD_eq fun j hj => ?_
  have hbyte : (11 * i + j) / 8 < 22 := by omega
  have hpos : 8 * ((11 * i + j) / 8) + (11 * i + j) % 8 = 11 * i + j := Nat.div_add_mod ..
  have hchannel : (11 * i + j) / 11 = i := by omega
  have hbit : (11 * i + j) % 11 = j := by omega
  have hpacked := packFixed_getLsbD v hbyte (Nat.mod_lt (11 * i + j) (by decide : 0 < 8))
  rw [hm _ hbyte, hpos, hchannel, hbit] at hpacked
  rw [fixedDecode_getElem, field11_getLsbD m _ j hj]
  simpa [hi] using hpacked

/-- Settles O57: POLL of a fixed-format snapshot writes `fixedDecode`, which undoes `packFixed`. -/
theorem fixedFormatRoundTrip : Obligations.FixedFormatRoundTrip := by
  intro s v hready htype hpacked
  have hdecode : decodeSnapshot s = v := by
    rw [decodeSnapshot, if_pos htype, fixedDecode_packFixed hpacked]
  rw [exec_poll, execPoll, if_pos hready, hdecode]
  rfl

/-! ## Words and operations -/

/-- The build option that governs a frame kind (R78). -/
def kindEnabled (p : Params) : FrameKind → Bool
  | .rcSubset | .linkStatsRx | .linkStatsTx | .command => p.v3
  | .mspReq | .mspWrite | .devicePing | .displayport => p.telem
  | .rcFixed | .linkStats | .unknownType => true

/-- The ten type codes being distinct, a kind's code selects that kind's arm, or UNKNOWN_TYPE when its build option
is off (R78, R151). The decoder compares codes in either order, so distinctness is used read forwards and backwards. -/
theorem decodeKind_code {p : Params} {k : FrameKind} {t : Byte} (hp : p.typeCodes.Nodup) (hk : k.code p = some t) :
    decodeKind p t = bif kindEnabled p k then k else .unknownType := by
  have hrev := List.nodup_reverse.2 hp
  simp only [Params.typeCodes, List.reverse_cons, List.reverse_nil, List.nil_append, List.cons_append, List.nodup_cons,
    List.mem_cons, not_or] at hp hrev
  cases k <;> cases hk <;> simp [decodeKind, kindEnabled, hp, hrev]

/-- A code whose build option is on decodes to the operation of its kind. -/
theorem decode_frameType_code {p : Params} {t : Byte} (hp : p.Valid) (k : FrameKind) (hk : k.code p = some t)
    (hen : kindEnabled p k = true) (P : PayloadLen) (r : Bool) :
    decode p (.frameType t P r) = [k.instr t P r] := by
  rw [decode, decodeType, decodeKind_code hp.1 hk, hen, cond_true]

/-- An operation that is the only one strobed is among those of its step (R77). -/
theorem mem_decodePorts_of_strobes {x : Inputs} {i : Instr} (h : strobes x = [i]) : i ∈ decodePorts x := by
  simp [decodePorts, h]

/-- Settles O59: a port operation is the one its input pattern strobes, or one of the two read ports; a frame operation
is the one its type code selects (`decodeKind_code`). -/
theorem decodeOfEncode : Obligations.DecodeOfEncode := by
  intro p i hp hi
  cases i with
  | reset | byteIn | poll | nop => exact ⟨mem_decodePorts_of_strobes (strobes_eq _), .inl (strobes_eq _)⟩
  | readCh k | fbRead a => exact ⟨by simp [decode, decodePorts, readPorts], .inr (by simp [readPorts])⟩
  | rcFixed P => exact decode_frameType_code hp .rcFixed rfl hi P false
  | rcSubset P => exact decode_frameType_code hp .rcSubset rfl hi P false
  | mspReq P => exact decode_frameType_code hp .mspReq rfl hi P false
  | mspWrite P => exact decode_frameType_code hp .mspWrite rfl hi P false
  | devicePing P => exact decode_frameType_code hp .devicePing rfl hi P false
  | displayport P => exact decode_frameType_code hp .displayport rfl hi P false
  | linkStats P r => exact decode_frameType_code hp .linkStats rfl hi P r
  | linkStatsRx P => exact decode_frameType_code hp .linkStatsRx rfl hi P false
  | linkStatsTx P => exact decode_frameType_code hp .linkStatsTx rfl hi P false
  | command P => exact decode_frameType_code hp .command rfl hi P false
  | unknownType t =>
    have hkind : decodeKind p t = .unknownType := by simpa [Instr.wellFormed] using hi
    show [(decodeKind p t).instr t 0 false] = [.unknownType t]
    rw [hkind]; rfl
  | frameCrc P => exact ⟨P, .inl rfl⟩
  | cmdCrc P => exact ⟨P, .inr rfl⟩

/-- Settles O60: sixteen closed words, each read by the decoder. -/
theorem tableWordsDecode : Obligations.TableWordsDecode := by
  unfold Obligations.TableWordsDecode
  decide

/-! ## The address byte

Another address byte is the state `s.storeByte 0 v`. An arm that does not look at index 0 commutes with that store,
since every byte it reads stands at index 2 or later. -/

section
variable (s : State) (v : Byte)

theorem Memory.read_write_zero (m : Memory) {a : Nat} (ha : 0 < a) : (m.write 0 v).read a = m.read a :=
  m.read_write_other 0 v a (Nat.ne_of_lt ha)

theorem emitDispatch_storeByte_zero (r : RouteCode) (P : PayloadLen) (w : Nat × Nat) :
    (s.storeByte 0 v).emitDispatch r P w = (s.emitDispatch r P w).storeByte 0 v := by
  simp only [State.emitDispatch, State.storeByte, Memory.read_write_zero v s.fb Nat.two_pos]

theorem filterFrame_storeByte_zero (r : FiltReason) :
    filterFrame r (s.storeByte 0 v) = (filterFrame r s).storeByte 0 v := rfl

theorem gatedBy_storeByte_zero (enabled : Bool) (t : State) :
    gatedBy enabled (s.storeByte 0 v) (t.storeByte 0 v) = (gatedBy enabled s t).storeByte 0 v := by
  cases enabled <;> rfl

/-- CMD_CRC covers index 2 and the payload, and is compared with index S - 2 ≥ 2 (R104). -/
theorem evalCmdCrc_storeByte_zero (P : PayloadLen) :
    (s.storeByte 0 v).evalCmdCrc P = (s.evalCmdCrc P).storeByte 0 v := by
  have hregion : cmdRegion (s.fb.write 0 v) P = cmdRegion s.fb P := by
    rw [cmdRegion, cmdRegion, Memory.read_write_zero v s.fb Nat.two_pos,
      Memory.slice_congr fun i hi _ => Memory.read_write_zero v s.fb (by omega)]
  have hcrc : (s.fb.write 0 v).read (P.total - 2) = s.fb.read (P.total - 2) :=
    Memory.read_write_zero v s.fb (by have := PayloadLen.total_bounds P; omega)
  simp only [State.evalCmdCrc, State.latchCmdCrc, State.storeByte, hregion, hcrc]

/-- The command frame's checked address byte stands at index 3 or 4, not at index 0 (R161). -/
theorem commandChecked_storeByte_zero (P : PayloadLen) :
    commandChecked P (s.storeByte 0 v) = (commandChecked P s).storeByte 0 v := by
  have haddr : (s.fb.write 0 v).read s.params.cmdAddrIndex.toNat = s.fb.read s.params.cmdAddrIndex.toNat :=
    Memory.read_write_zero v s.fb (by cases s.params.cmdAddrIndex <;> decide)
  unfold commandChecked
  simp only [State.storeByte_crc, State.storeByte_fb, State.storeByte_params, haddr]
  rw [emitDispatch_storeByte_zero, filterFrame_storeByte_zero, filterFrame_storeByte_zero]
  split
  · rfl
  · split <;> rfl

end

/-- The operations of the frame types that do not look at the frame address (R79). -/
def ignoresAddress : Instr → Bool
  | .mspReq _ | .mspWrite _ | .devicePing _ | .displayport _ | .linkStats _ _ | .linkStatsRx _ | .command _
  | .unknownType _ => true
  | _ => false

/-- An operation that ignores the address does the same under another address byte, and leaves that byte. -/
theorem exec_storeByte_zero {i : Instr} {s t : State} (v : Byte) (hi : ignoresAddress i = true)
    (h : exec i s = .next t) : exec i (s.storeByte 0 v) = .next (t.storeByte 0 v) := by
  cases i with
  | mspReq P | mspWrite P | devicePing P | displayport P | linkStatsRx P =>
    cases h
    rw [← gatedBy_storeByte_zero, ← emitDispatch_storeByte_zero]
    rfl
  | command P =>
    cases h
    rw [← gatedBy_storeByte_zero, ← commandChecked_storeByte_zero, ← evalCmdCrc_storeByte_zero]
    rfl
  | linkStats P r =>
    cases h
    rw [exec_linkStats, execLinkStats, emitDispatch_storeByte_zero, filterFrame_storeByte_zero,
      apply_ite (State.storeByte · 0 v)]
    rfl
  | unknownType c => cases h; rfl
  | _ => cases hi

/-- Settles O51: storing another address byte changes `fb` only, before the operation and so after it. -/
theorem addressCheckedForThreeTypesOnly : Obligations.AddressCheckedForThreeTypesOnly := by
  intro i s t u P r c v hi ht hu
  have hignores : ignoresAddress i = true := by
    obtain rfl | rfl | rfl | rfl | rfl | rfl | rfl | rfl := hi <;> rfl
  cases (exec_storeByte_zero v hignores ht).symm.trans hu
  exact ⟨rfl, rfl, rfl⟩

/-! ## The control vector -/

/-- Settles O3: without a strobe a step is its two read ports. -/
theorem nopChangesNothing : Obligations.NopChangesNothing := by
  refine ⟨fun _ => rfl, fun s hrst hbyte hpoll => ⟨s.beforeByte s.currentInput, ?_, ?_⟩⟩
  · rw [step_running s hrst, if_neg (by simp [hbyte])]
  · simp [hpoll, Outputs.idle]

/-- The two read ports, run one after the other from the start of the step. -/
theorem afterReads_eq (s : State) (x : Inputs) (f : State → Host.Outcome State Fault Refusal) :
    (andThen (exec (.readCh x.chIdx) s.beginStep) fun s1 => andThen (exec (.fbRead x.fbRdAddr) s1) f) =
      f (s.afterReads x) := by
  simp [execReadCh, execFbRead, State.afterReads]

/-- Settles O8: `beginStep` in its two cases, and the shapes of a step by its three strobes. -/
theorem stepRunsSelectedOps : Obligations.StepRunsSelectedOps := by
  refine ⟨fun s x xs hs => ⟨s.currentInput_cons x xs hs, by simp [State.beginStep, hs]⟩,
    fun s hs => ⟨by simp [State.currentInput, hs], by simp [State.beginStep, hs]⟩, fun s x hx => ?_⟩
  rw [afterReads_eq, step_shapes s x hx]
  cases x.rst <;> cases x.byteValid <;> cases x.poll <;> rfl

end Sys2Proof.Machine
end

section
/-! PROOFS. The checksum engine (40_checksum.md): CRC8 is linear and, when its polynomial has a constant term, injective
in each byte (R100, R101), and the regions that FRAME_CRC and CMD_CRC cover (R102, R104). -/

namespace Sys2Proof.Machine

variable (poly : Byte)

/-! ## One shift -/

theorem crc8Shift_of_bit7_clear {c : Byte} (hc : c.getLsbD 7 = false) : crc8Shift poly c = c <<< 1 := by
  rw [crc8Shift, hc, if_neg Bool.false_ne_true]

theorem crc8Shift_of_bit7_set {c : Byte} (hc : c.getLsbD 7 = true) : crc8Shift poly c = (c <<< 1) ^^^ poly := by
  rw [crc8Shift, if_pos hc]

@[simp] theorem crc8Shift_zero : crc8Shift poly 0#8 = 0#8 := rfl

/-! ## Linearity -/

/-- Bit 7 of a sum is the sum of the bits 7, and the polynomial added twice cancels. -/
theorem crc8Shift_xor (c d : Byte) : crc8Shift poly (c ^^^ d) = crc8Shift poly c ^^^ crc8Shift poly d := by
  simp only [crc8Shift, BitVec.shiftLeft_xor_distrib, BitVec.getLsbD_xor]
  cases c.getLsbD 7 <;> cases d.getLsbD 7
  case false.false => rfl
  case false.true => exact BitVec.xor_assoc ..
  case true.false =>
    show (c <<< 1) ^^^ (d <<< 1) ^^^ poly = (c <<< 1) ^^^ poly ^^^ (d <<< 1)
    ac_rfl
  case true.true =>
    have hcancel : (c <<< 1) ^^^ poly ^^^ ((d <<< 1) ^^^ poly) = (c <<< 1) ^^^ (d <<< 1) ^^^ (poly ^^^ poly) := by
      ac_rfl
    simp [hcancel]

theorem repeat_crc8Shift_xor (n : Nat) (c d : Byte) :
    Nat.repeat (crc8Shift poly) n (c ^^^ d) =
      Nat.repeat (crc8Shift poly) n c ^^^ Nat.repeat (crc8Shift poly) n d := by
  induction n with
  | zero => rfl
  | succ n ih => simp only [Nat.repeat, ih, crc8Shift_xor]

theorem crc8Byte_xor (c d x y : Byte) :
    crc8Byte poly (c ^^^ d) (x ^^^ y) = crc8Byte poly c x ^^^ crc8Byte poly d y := by
  have hsum : c ^^^ d ^^^ (x ^^^ y) = c ^^^ x ^^^ (d ^^^ y) := by ac_rfl
  rw [crc8Byte, hsum, repeat_crc8Shift_xor, crc8Byte, crc8Byte]

/-- Linearity from any two start values, which the induction over the lists needs. -/
theorem foldl_crc8Byte_zipWith_xor : ∀ {xs ys : List Byte}, xs.length = ys.length → ∀ c d : Byte,
    (List.zipWith (· ^^^ ·) xs ys).foldl (crc8Byte poly) (c ^^^ d) =
      xs.foldl (crc8Byte poly) c ^^^ ys.foldl (crc8Byte poly) d
  | [], [], _, _, _ => rfl
  | _ :: _, _ :: _, h, c, d => by
    simp only [List.zipWith_cons_cons, List.foldl_cons, crc8Byte_xor, foldl_crc8Byte_zipWith_xor (Nat.succ.inj h)]

/-- Settles O20: linearity from the start values 0 and 0. -/
theorem crcIsLinear : Obligations.CrcIsLinear :=
  fun poly _ _ h => foldl_crc8Byte_zipWith_xor poly h 0 0

/-! ## Corner cases -/

/-- The register 0 stays 0 under a byte 0x00. -/
@[simp] theorem crc8Byte_zero : crc8Byte poly 0 0 = 0 := by
  simp [crc8Byte, Nat.repeat]

/-- Seven shifts bring the one of 0x01 to bit 7, and the eighth shifts it out. -/
theorem crc8_one : crc8 poly [1] = poly := by
  have hseven : Nat.repeat (crc8Shift poly) 7 (0 ^^^ 1) = 0x80 := by simp [Nat.repeat, crc8Shift]
  calc crc8 poly [1] = crc8Shift poly 0x80 := congrArg (crc8Shift poly) hseven
    _ = 0 ^^^ poly := rfl
    _ = poly := BitVec.zero_xor

theorem crc8_replicate_zero_append (n : Nat) (xs : List Byte) :
    crc8 poly (List.replicate n 0 ++ xs) = crc8 poly xs := by
  induction n with
  | zero => rfl
  | succ n ih => rwa [crc8, List.replicate_succ, List.cons_append, List.foldl_cons, crc8Byte_zero]

/-- Settles O21: the three cases, the lists of zeros by induction on their length. -/
theorem crcCornerCases : Obligations.CrcCornerCases :=
  fun poly => ⟨crc8_nil poly, crc8_one poly, crc8_replicate_zero_append poly⟩

/-! ## One changed byte -/

section
variable {poly}

/-- A polynomial with a constant term leaves in bit 0 the bit that was shifted out. -/
theorem crc8Shift_getLsbD_zero (h : poly.getLsbD 0 = true) (c : Byte) :
    (crc8Shift poly c).getLsbD 0 = c.getLsbD 7 := by
  cases hc : c.getLsbD 7 with
  | false => simp [crc8Shift_of_bit7_clear poly hc]
  | true => simpa [crc8Shift_of_bit7_set poly hc] using h

/-- One shift loses nothing: by linearity it is enough that only 0 is shifted to 0. -/
theorem crc8Shift_injective (h : poly.getLsbD 0 = true) : Function.Injective (crc8Shift poly) := by
  have hkernel (c : Byte) (hc : crc8Shift poly c = 0) : c = 0 := by
    have hbit : c.getLsbD 7 = false := by rw [← crc8Shift_getLsbD_zero h, hc]; rfl
    have hshift : c <<< 1 = 0 := by rwa [crc8Shift_of_bit7_clear poly hbit] at hc
    refine BitVec.eq_of_getLsbD_eq fun i hi => ?_
    obtain rfl | hlt : i = 7 ∨ i < 7 := by omega
    · exact hbit
    · have hup := congrArg (·.getLsbD (i + 1)) hshift
      simpa [show i + 1 < 8 by omega, BitVec.getLsbD_eq_getElem hi] using hup
  intro c d hcd
  refine BitVec.xor_eq_zero_iff.1 (hkernel _ ?_)
  rw [crc8Shift_xor, hcd]
  exact BitVec.xor_self

theorem repeat_crc8Shift_injective (h : poly.getLsbD 0 = true) (n : Nat) :
    Function.Injective (Nat.repeat (crc8Shift poly) n) := by
  induction n with
  | zero => exact Function.injective_id
  | succ n ih => exact (crc8Shift_injective h).comp ih

theorem crc8Byte_eq_iff (h : poly.getLsbD 0 = true) {c d x y : Byte} :
    crc8Byte poly c x = crc8Byte poly d y ↔ c ^^^ x = d ^^^ y :=
  (repeat_crc8Shift_injective h 8).eq_iff

/-- The bytes that follow never bring two different registers together. -/
theorem foldl_crc8Byte_injective (h : poly.getLsbD 0 = true) (ys : List Byte) :
    Function.Injective fun c => ys.foldl (crc8Byte poly) c := by
  induction ys with
  | nil => exact Function.injective_id
  | cons y ys ih => exact fun c d hcd => (BitVec.xor_left_inj y).1 ((crc8Byte_eq_iff h).1 (ih hcd))

theorem crc8_append_cons_eq_iff (h : poly.getLsbD 0 = true) (xs ys : List Byte) {b c : Byte} :
    crc8 poly (xs ++ b :: ys) = crc8 poly (xs ++ c :: ys) ↔ b = c := by
  simp only [crc8, List.foldl_append, List.foldl_cons]
  rw [(foldl_crc8Byte_injective h ys).eq_iff, crc8Byte_eq_iff h, BitVec.xor_right_inj]

end

/-- Settles O22: POLY_FRAME has a constant term, so CRC8 is injective in each byte. -/
theorem crcDetectsOneByte : Obligations.CrcDetectsOneByte :=
  fun xs ys _ _ hbc heq => hbc ((crc8_append_cons_eq_iff (by decide) xs ys).1 heq)

/-! ## The covered regions -/

section
variable {m : Memory} {P : PayloadLen}

/-- A list with the length and the bytes of a slice is the slice. -/
theorem Memory.eq_slice {a b : Nat} {xs : List Byte} (hlen : xs.length = b + 1 - a)
    (hread : ∀ j (h : j < xs.length), xs[j] = m.read (a + j)) : xs = m.slice a b :=
  List.ext_getElem (by rw [hlen, Memory.length_slice]) fun j h _ => by rw [hread j h, Memory.getElem_slice]

theorem eq_frameRegion {bytes : List Byte} (hlen : bytes.length = P.val + 1)
    (hread : ∀ j (h : j < bytes.length), bytes[j] = m.read (2 + j)) : bytes = frameRegion m P :=
  Memory.eq_slice (by rw [hlen, PayloadLen.total]; omega) hread

theorem eq_cmdRegion {body : List Byte} (hlen : body.length = P.val - 1)
    (hread : ∀ j (h : j < body.length), body[j] = m.read (3 + j)) : m.read 2 :: body = cmdRegion m P :=
  congrArg (m.read 2 :: ·) (Memory.eq_slice (by rw [hlen, PayloadLen.total]; omega) hread)

end

/-- Settles O23: FRAME_CRC latches the CRC of the region and its comparison with byte S - 1 = P + 3. -/
theorem frameCrcCoversTypeAndPayload : Obligations.FrameCrcCoversTypeAndPayload := by
  intro P s bytes hlen hread
  rw [eq_frameRegion hlen hread]
  rfl

/-- Settles O24: CMD_CRC latches the CRC of the region and its comparison with byte S - 2 = P + 2. -/
theorem cmdCrcCoversTypeAndBody : Obligations.CmdCrcCoversTypeAndBody := by
  intro P s body hlen hread
  rw [eq_cmdRegion hlen hread]
  rfl

/-! ## The header is outside both regions -/

section
variable {a : BufIdx} (ha : a.toNat < 2) (m : Memory) (v : Byte) (P : PayloadLen)
include ha

theorem Memory.read_write_header {i : Nat} (hi : 2 ≤ i) : (m.write a v).read i = m.read i :=
  m.read_write_other a v i (by omega)

theorem frameRegion_write_header : frameRegion (m.write a v) P = frameRegion m P :=
  Memory.slice_congr fun _ hi _ => Memory.read_write_header ha m v hi

theorem cmdRegion_write_header : cmdRegion (m.write a v) P = cmdRegion m P := by
  rw [cmdRegion, cmdRegion, Memory.read_write_header ha m v (Nat.le_refl 2),
    Memory.slice_congr fun _ hi _ => Memory.read_write_header ha m v (by omega)]

end

/-- Settles O25: neither the regions nor the bytes at S - 1 and S - 2 they are compared with lie in the header. -/
theorem headerIsNotCovered : Obligations.HeaderIsNotCovered := by
  intro P s t u a v ha
  obtain ⟨htotal, -⟩ := PayloadLen.total_bounds P
  have hread {i : Nat} (hi : 2 ≤ i) : (s.fb.write a v).read i = s.fb.read i :=
    Memory.read_write_header ha s.fb v hi
  constructor <;> intro ht hu <;> cases ht <;> cases hu
  · simp only [State.evalFrameCrc, State.latchFrameCrc, frameRegion_write_header ha,
      hread (show 2 ≤ P.total - 1 by omega)]
  · simp only [State.evalCmdCrc, State.latchCmdCrc, cmdRegion_write_header ha,
      hread (show 2 ≤ P.total - 2 by omega)]

end Sys2Proof.Machine
end

section
/-! PROOFS. The frame assembler (41_frame_assembler.md): how BYTE_IN ends (R120 to R128), the counter and the fallback request
(R129 to R131, R134), what a step without a byte leaves (R135), and a whole frame from its first byte to its last (R133); with
them the frame's report (42_dispatcher.md R150), the invariant of the block (10_state.md R30) and the reuse window
(70_reset_and_hazards.md R236). -/

namespace Sys2Proof.Machine

/-- Settles O13: the codes of the four tables, in their order. -/
theorem outputCodesFollowTables : Obligations.OutputCodesFollowTables :=
  ⟨rfl, rfl, rfl, rfl⟩

/-! ## Working cursor and size -/

theorem cursorFor_of_timeout {s : State} {ts : Stamp} (h : 1100 < (ts - s.tStart).toNat) : cursorFor s ts = 0 :=
  if_pos h

theorem cursorFor_toNat_le (s : State) (ts : Stamp) : (cursorFor s ts).toNat ≤ s.pos.toNat := by
  unfold cursorFor
  split
  · exact Nat.zero_le _
  · exact Nat.le_refl _

theorem sizeFor_of_lt {s : State} {p : BufIdx} (h : p.toNat < 3) : sizeFor s p = 5 :=
  if_pos h

theorem sizeFor_of_ge {s : State} {p : BufIdx} (h : 3 ≤ p.toNat) : sizeFor s p = (s.fb.read 1).toNat + 2 :=
  if_neg (by omega)

theorem bufIdx_ne_zero {p : BufIdx} (h : 3 ≤ p.toNat) : p ≠ 0 :=
  fun hzero => by simp [hzero] at h

/-- A byte beyond the provisional size's cursors is not the first, and does not take the timestamp (R122, R123). -/
theorem State.stampStart_of_started {s : State} {ts : Stamp} (h : 3 ≤ (cursorFor s ts).toNat) : s.stampStart ts = s := by
  rw [State.stampStart, s.workingPos_eq, if_neg (bufIdx_ne_zero h)]

/-! ## One BYTE_IN -/

/-- BYTE_IN always answers a next state (R210). -/
theorem execByteIn_next (b : Byte) (ts : Stamp) (r : Bool) (s : State) : ∃ t, execByteIn b ts r s = .next t := by
  obtain ⟨-, h⟩ | ⟨P, -, ⟨-, h⟩ | ⟨-, u, -, ⟨-, h⟩ | ⟨-, h⟩⟩⟩ := execByteIn_cases b ts r s
  · exact ⟨_, h⟩
  · exact ⟨_, h⟩
  · obtain ⟨t, ht, -⟩ := dispatch_spec P r (frameValid u)
    exact ⟨t, h.trans ht⟩
  · exact ⟨_, h⟩

/-- Settles O27: BYTE_IN has a next state, and `execByteIn_frame` names its timestamp. -/
theorem timestampOnlyAtFrameStart : Obligations.TimestampOnlyAtFrameStart := by
  intro b ts r s
  obtain ⟨t, h⟩ := execByteIn_next b ts r s
  obtain ⟨-, -, -, -, -, -, -, -, -, -, hstart⟩ := execByteIn_frame h
  exact ⟨t, h, hstart⟩

/-- Settles O26: of the endings in `execByteIn_spec`, the size excludes the framing error and the cursor the completion. -/
theorem byteStoredAndCursorAdvanced : Obligations.ByteStoredAndCursorAdvanced := by
  intro b ts r s p hp hmin hmax hlt
  subst hp
  obtain ⟨t, h⟩ := execByteIn_next b ts r s
  obtain ⟨hparams, hch, hin, hclock, -, -, -, -, -, -, hstart⟩ := execByteIn_frame h
  obtain ⟨hsize, -⟩ | ⟨P, hsize, hfb, ⟨-, hpos, hsnap, hready, hcnt, hcrc, hout⟩ | ⟨hge, -⟩⟩ := execByteIn_spec h
  · omega
  · refine ⟨t, h, fun a => ?_, ?_, hstart, hout, hcnt, hsnap, hready, hch, hparams, hin, hclock, hcrc⟩
    · rw [hfb, Memory.read_write]
      simp only [eq_comm]
    · rw [hpos]
      bv_omega
  · omega

/-- Only a timeout over a partial frame gives STORED_RESYNC (R121, R132). -/
theorem timeout_of_storedResync {b : Byte} {ts : Stamp} {r : Bool} {s t : State} (h : execByteIn b ts r s = .next t)
    (hev : t.out.rxEvent = .storedResync) : 1100 < (ts - s.tStart).toNat := by
  obtain ⟨-, -, -, -, -, -, hout, -⟩ | ⟨_, -, -, ⟨-, -, -, -, -, -, hout⟩ | ⟨-, -, ⟨hvalid, -⟩ | ⟨-, -, -, -, hout⟩⟩⟩ :=
    execByteIn_spec h
  · rw [hout] at hev; cases hev
  · by_contra hle
    simp only [hout, hle, false_and, if_false, reduceCtorEq] at hev
  · rw [hvalid] at hev; cases hev
  · rw [hout] at hev; cases hev

/-- Settles O28: after a timeout the working cursor is 0, so the byte is a stored one (O26) under the provisional size. -/
theorem timeoutRestartsFrame : Obligations.TimeoutRestartsFrame := by
  intro b ts r s
  by_cases hto : 1100 < (ts - s.tStart).toNat
  · have hsize : sizeFor s 0 = 5 := sizeFor_of_lt (by decide)
    obtain ⟨t, h, hfb, hpos, hstart, hout, hcnt, -⟩ := byteStoredAndCursorAdvanced b ts r s 0
      (cursorFor_of_timeout hto).symm (by omega) (by omega) (by rw [hsize]; decide)
    refine ⟨t, h, fun _ => ⟨hfb, BitVec.eq_of_toNat_eq hpos, hstart, hcnt, ?_⟩, by omega⟩
    simp only [hout, hto, true_and, ne_eq, ite_not]
  · obtain ⟨t, h⟩ := execByteIn_next b ts r s
    exact ⟨t, h, fun h' => absurd h' hto, fun _ hev => hto (timeout_of_storedResync h hev)⟩

/-- Settles O29: the size is not the provisional 5, so the cursor is past 0 and the timestamp stays. -/
theorem framingErrorDropsByte : Obligations.FramingErrorDropsByte := by
  intro b ts r s hbad
  obtain ⟨t, h⟩ := execByteIn_next b ts r s
  obtain ⟨hparams, hch, hin, hclock, -, -, -, -, -, -, hstart⟩ := execByteIn_frame h
  obtain ⟨-, hfb, hpos, hsnap, hready, hcount, hout, hcrc⟩ | ⟨P, hsize, -⟩ := execByteIn_spec h
  · have hcursor : cursorFor s ts ≠ 0 := by
      intro hzero
      rw [hzero, sizeFor_of_lt (by decide)] at hbad
      omega
    rw [if_neg hcursor] at hstart
    exact ⟨t, h, hfb, hpos, hstart, hcount, hout, hsnap, hready, hch, hparams, hin, hclock, hcrc⟩
  · have := P.isLt
    omega

/-- Settles O30: of the endings in `execByteIn_spec`, size and cursor leave the completion, and the checksum its error. -/
theorem crcErrorDiscardsFrame : Obligations.CrcErrorDiscardsFrame := by
  intro b ts r s p P hp hsize hge hcrc
  subst hp
  obtain ⟨t, h⟩ := execByteIn_next b ts r s
  obtain ⟨hparams, hch, hin, hclock, -, -, -, -, -, -, hstart⟩ := execByteIn_frame h
  rw [if_neg (bufIdx_ne_zero (by omega))] at hstart
  obtain ⟨hbad, -⟩ | ⟨Q, hsize', hfb, hend⟩ := execByteIn_spec h
  · have := P.isLt
    omega
  · obtain rfl : Q = P := Fin.ext (by omega)
    obtain ⟨hlt, -⟩ | ⟨-, hpos, ⟨-, -, -, hcrc', -⟩ | ⟨hsnap, hready, hcount, -, hout⟩⟩ := hend
    · omega
    · rw [hfb] at hcrc'
      exact absurd hcrc' hcrc
    · exact ⟨t, h, hfb, hpos, hstart, hcount, hout, hsnap, hready, hch, hparams, hin, hclock⟩

/-- The state a valid frame is dispatched on (R127), written out. -/
theorem frameValid_evalFrameCrc {s : State} {P : PayloadLen}
    (hcrc : crc8 0xD5#8 (s.fb.slice 2 (P.val + 2)) = s.fb.read (P.val + 3)) :
    frameValid (s.evalFrameCrc P) = { s with
      errCnt := if s.params.v3 then 0 else s.errCnt
      out := { s.out with rxEvent := .frameValid }
      crc := { s.crc with frameCrc := crc8 0xD5#8 (s.fb.slice 2 (P.val + 2)), frameOk := true } } := by
  have hok : decide (crc8 0xD5#8 (s.fb.slice 2 (P.val + 2)) = s.fb.read (P.val + 3)) = true := decide_eq_true hcrc
  have heval : s.evalFrameCrc P = { s with
      crc := { s.crc with frameCrc := crc8 0xD5#8 (s.fb.slice 2 (P.val + 2)), frameOk := true } } := by
    rw [← hok]; rfl
  rw [heval, frameValid, State.clearFailures, State.emitRx_params]
  split <;> rfl

section
variable {b : Byte} {ts : Stamp} {r : Bool} {s : State} {P : PayloadLen}
  (hsize : sizeFor s (cursorFor s ts) = P.total) (hge : P.total ≤ (cursorFor s ts).toNat + 1)
include hsize hge

/-- A byte that completes a frame goes to the completion with the byte stored (R126). -/
theorem execByteIn_completes : execByteIn b ts r s = completeFrame P r (s.storeByte (cursorFor s ts) b) := by
  have hmin := (PayloadLen.total_bounds P).1
  have hlen : payloadLenOf (frameSizeAt s.fb (cursorFor s ts)) = some P := payloadLenOf_eq_some.2 hsize
  have hstart : s.stampStart ts = s := State.stampStart_of_started (by omega)
  unfold execByteIn
  simp only [s.workingPos_eq, hlen, hstart, if_neg (Nat.not_lt.2 hge)]

variable (hcrc : crc8 0xD5#8 ((s.fb.write (cursorFor s ts) b).slice 2 (P.val + 2)) =
  (s.fb.write (cursorFor s ts) b).read (P.val + 3))
include hcrc

/-- A byte that completes a frame with a matching checksum dispatches it (R126, R127). -/
theorem execByteIn_dispatches :
    execByteIn b ts r s =
      dispatch P r (frameValid (((s.storeByte (cursorFor s ts) b).setPos 0).evalFrameCrc P)) := by
  have hok : (((s.storeByte (cursorFor s ts) b).setPos 0).evalFrameCrc P).crc.frameOk = true := decide_eq_true hcrc
  rw [execByteIn_completes hsize hge, completeFrame]
  exact if_pos hok

/-- Whatever its route, a valid frame ends at cursor 0 with the byte stored (R126, R127). -/
theorem execByteIn_valid :
    ∃ t, execByteIn b ts r s = .next t ∧ t.out.rxEvent = .frameValid ∧ t.pos = 0 ∧ t.inputs = s.inputs ∧
      t.fb = s.fb.write (cursorFor s ts) b := by
  obtain ⟨t, ht, -, hfb, hpos, -, -, -, hin, -, hev, -⟩ := dispatch_spec P r
    (frameValid (((s.storeByte (cursorFor s ts) b).setPos 0).evalFrameCrc P))
  simp only [frameValid, State.clearFailures_fb, State.clearFailures_pos, State.clearFailures_inputs,
    State.clearFailures_out, State.emitRx_out, State.emitRx_fb, State.emitRx_pos, State.emitRx_inputs] at hfb hpos hin hev
  exact ⟨t, (execByteIn_dispatches hsize hge hcrc).trans ht, hev, hpos, hin, hfb⟩

end

/-- Settles O31: DISPATCH is exec of the decoded operation. -/
theorem validFrameRunsItsRoute : Obligations.ValidFrameRunsItsRoute := by
  intro b ts r s p P hp hsize hge hcrc
  subst hp
  rw [exec_byteIn, execByteIn_dispatches hsize hge hcrc, frameValid_evalFrameCrc hcrc, dispatch_eq_exec]
  rfl

/-! ## The ending of a frame -/

/-- The cursor, the event and the frame buffer by the way BYTE_IN ends (R124, R125, R126): the byte is stored and the frame
goes on, or the byte is stored and ends the frame, or it is dropped. -/
theorem execByteIn_cursor {b : Byte} {ts : Stamp} {r : Bool} {s t : State} (h : execByteIn b ts r s = .next t) :
    ((t.out.rxEvent = .stored ∨ t.out.rxEvent = .storedResync) ∧ t.fb = s.fb.write (cursorFor s ts) b ∧
      (cursorFor s ts).toNat + 1 < sizeFor s (cursorFor s ts) ∧ sizeFor s (cursorFor s ts) ≤ 64 ∧
      t.pos.toNat = (cursorFor s ts).toNat + 1) ∨
    ((t.out.rxEvent = .frameValid ∨ t.out.rxEvent = .crcError) ∧ t.fb = s.fb.write (cursorFor s ts) b ∧
      4 ≤ sizeFor s (cursorFor s ts) ∧ sizeFor s (cursorFor s ts) ≤ (cursorFor s ts).toNat + 1 ∧ t.pos = 0) ∨
    (t.out.rxEvent = .framingError ∧ t.fb = s.fb ∧ t.pos = 0) := by
  obtain ⟨-, hfb, hpos, -, -, -, hout, -⟩ | ⟨P, hsize, hfb, hend⟩ := execByteIn_spec h
  · exact .inr (.inr ⟨by rw [hout], hfb, hpos⟩)
  · have hP := P.isLt
    obtain ⟨hlt, hpos, -, -, -, -, hout⟩ | ⟨hge, hpos, hdone⟩ := hend
    · refine .inl ⟨?_, hfb, by omega, by omega, ?_⟩
      · rw [hout]
        exact (ite_eq_or_eq _ _ _).symm
      · rw [hpos]
        bv_omega
    · refine .inr (.inl ⟨?_, hfb, by omega, by omega, hpos⟩)
      obtain ⟨hvalid, -⟩ | ⟨-, -, -, -, hout⟩ := hdone
      · exact .inl hvalid
      · exact .inr (by rw [hout])

/-- The cursor, the event and the frame buffer after a step without reset: as BYTE_IN leaves them, or without a byte as
they were. -/
theorem step_cursor {s t : State} (hr : s.currentInput.rst = false) (h : step s = .next t) :
    (s.currentInput.byteValid = false ∧ t.out.rxEvent = .idle ∧ t.fb = s.fb ∧ t.pos = s.pos) ∨
    s.currentInput.byteValid = true ∧ ∃ p, p = cursorFor s s.currentInput.tsIn ∧
      (((t.out.rxEvent = .stored ∨ t.out.rxEvent = .storedResync) ∧ t.fb = s.fb.write p s.currentInput.byteIn ∧
          p.toNat + 1 < sizeFor s p ∧ sizeFor s p ≤ 64 ∧ t.pos.toNat = p.toNat + 1) ∨
        ((t.out.rxEvent = .frameValid ∨ t.out.rxEvent = .crcError) ∧ t.fb = s.fb.write p s.currentInput.byteIn ∧
          4 ≤ sizeFor s p ∧ sizeFor s p ≤ p.toNat + 1 ∧ t.pos = 0) ∨
        (t.out.rxEvent = .framingError ∧ t.fb = s.fb ∧ t.pos = 0)) := by
  obtain ⟨hv, rfl⟩ | ⟨hv, hbyte⟩ := step_running_cases hr h
  · exact .inl ⟨hv, by simp [Outputs.idle]⟩
  · exact .inr ⟨hv, _, rfl, by simpa using execByteIn_cursor hbyte⟩

/-! ## A step that resets -/

/-- What a reset step leaves (R230, R37, R38), but for the channels and the read ports. -/
theorem step_resetting_spec {s t : State} (hr : s.currentInput.rst = true) (h : step s = .next t) :
    t.fb = [] ∧ t.snap = [] ∧ t.pos = 0 ∧ t.errCnt = 0 ∧ t.ready = false ∧
    t.out = { Outputs.idle with chData := t.out.chData, fbRdData := t.out.fbRdData } := by
  rw [step_resetting hr] at h
  cases h
  exact ⟨rfl, rfl, rfl, rfl, rfl, rfl⟩

theorem step_resetting_rxEvent {s t : State} (hr : s.currentInput.rst = true) (h : step s = .next t) :
    t.out.rxEvent = .idle := by
  obtain ⟨-, -, -, -, -, hout⟩ := step_resetting_spec hr h
  rw [hout]; rfl

/-- Settles O32: `step_cursor` names the cursor with each event; a cursor below a size of at most 64 does not wrap to 0. -/
theorem frameEndReturnsToStart : Obligations.FrameEndReturnsToStart := by
  intro s t h
  cases hr : s.currentInput.rst with
  | true => simp [step_resetting_rxEvent hr h]
  | false =>
    obtain ⟨-, hev, -⟩ | ⟨-, p, -, ⟨hev, -, -, -, hpos⟩ | ⟨hev, -, -, -, hpos⟩ | ⟨hev, -, hpos⟩⟩ := step_cursor hr h
    · simp [hev]
    · have hne : t.pos ≠ 0 := fun hzero => by simp [hzero] at hpos
      refine ⟨fun hend => ?_, fun _ => hne⟩
      obtain hev | hev := hev <;> simp [hev] at hend
    · refine ⟨fun _ => hpos, fun hstored => ?_⟩
      obtain hev | hev := hev <;> simp [hev] at hstored
    · simp [hev, hpos]

/-- Settles O4: without a byte a step ends as POLL leaves it; and every ending of BYTE_IN has an event. -/
theorem noByteLeavesAssembler : Obligations.NoByteLeavesAssembler := by
  intro s t h
  cases hr : s.currentInput.rst with
  | true => simp [step_resetting_rxEvent hr h]
  | false =>
    refine ⟨fun _ hv => ?_, ?_⟩
    · obtain ⟨-, rfl⟩ | ⟨hv', -⟩ := step_running_cases hr h
      · simp
      · rw [hv] at hv'; cases hv'
    · obtain ⟨hv, hev, -⟩ | ⟨hv, p, -, ⟨hev, -⟩ | ⟨hev, -⟩ | ⟨hev, -⟩⟩ := step_cursor hr h
      · simp [hv, hev]
      · obtain hev | hev := hev <;> simp [hv, hev]
      · obtain hev | hev := hev <;> simp [hv, hev]
      · simp [hv, hev]

/-! ## The counter and the fallback request -/

/-- The three cases of a counted failure (R129, R130, R131): not counted without version 3, the hundredth, an earlier one. -/
theorem CountedFailure.cases {s t : State} (h : CountedFailure s t) :
    (s.params.v3 = false ∧ t.errCnt = s.errCnt ∧ t.out.fallbackReq = s.out.fallbackReq) ∨
    (s.params.v3 = true ∧ 99 ≤ s.errCnt.toNat ∧ t.errCnt = 0 ∧ t.out.fallbackReq = true) ∨
    (s.params.v3 = true ∧ s.errCnt.toNat < 99 ∧ t.errCnt.toNat = s.errCnt.toNat + 1 ∧
      t.out.fallbackReq = s.out.fallbackReq) := by
  unfold CountedFailure at h
  split at h
  next hv =>
    split at h
    next hlast => exact .inr (.inl ⟨hv, by omega, h⟩)
    next hearlier => exact .inr (.inr ⟨hv, by omega, h⟩)
  next hv => exact .inl ⟨by simpa using hv, h⟩

theorem State.beforeByte_fallbackReq (s : State) (x : Inputs) : (s.beforeByte x).out.fallbackReq = false := by
  rw [State.beforeByte_out]; rfl

/-- Settles O33: of the events in `step_counter` only a failure can request the fallback, and `CountedFailure` says when. -/
theorem fallbackExactlyAtThreshold : Obligations.FallbackExactlyAtThreshold := by
  intro s t h
  cases hr : s.currentInput.rst with
  | true =>
    obtain ⟨-, -, -, -, -, hout⟩ := step_resetting_spec hr h
    rw [hout]
    simp [Outputs.idle]
  | false =>
    obtain ⟨hev, -, hreq⟩ | ⟨hev, -, hreq⟩ | ⟨hev, hcount⟩ := step_counter hr h
    · obtain hev | hev | hev := hev <;> simp [hev, hreq]
    · simp [hev, hreq]
    · have hcases := hcount.cases
      rw [State.beforeByte_params, State.beforeByte_errCnt, s.beforeByte_fallbackReq] at hcases
      obtain ⟨hv, -, hreq⟩ | ⟨hv, hge, hcnt, hreq⟩ | ⟨-, hlt, -, hreq⟩ := hcases
      · simp [hreq, hv]
      · simp [hreq, hcnt, hev, hv, hge]
      · simp [hreq, hlt]

/-- Settles O36: without version 3 neither a valid frame nor a failure writes the counter. -/
theorem versionTwoNeverCounts : Obligations.VersionTwoNeverCounts := by
  intro s t hv h
  cases hr : s.currentInput.rst with
  | true =>
    obtain ⟨-, -, -, hcnt, -, hout⟩ := step_resetting_spec hr h
    exact ⟨by rw [hout]; rfl, fun _ => hcnt, by simp⟩
  | false =>
    have hkeeps : t.errCnt = s.errCnt ∧ t.out.fallbackReq = false := by
      obtain ⟨-, hcnt, hreq⟩ | ⟨-, hcnt, hreq⟩ | ⟨-, hcount⟩ := step_counter hr h
      · exact ⟨hcnt, hreq⟩
      · exact ⟨by simpa [hv] using hcnt, hreq⟩
      · obtain ⟨-, hcnt, hreq⟩ | ⟨hv', -⟩ | ⟨hv', -⟩ := hcount.cases
        · exact ⟨hcnt.trans (s.beforeByte_errCnt _), hreq.trans (s.beforeByte_fallbackReq _)⟩
        · simp [hv] at hv'
        · simp [hv] at hv'
    exact ⟨hkeeps.2, fun hzero => hkeeps.1.trans hzero, fun _ => hkeeps.1⟩

/-! ## The report of a frame -/

/-- No frame is routed: `disp_valid` and with it the five dispatch fields are 0 (R163). -/
def DispatchIdle (o : Outputs) : Prop :=
  o.dispValid = false ∧ o.dispRoute = .none ∧ o.dispType = 0 ∧ o.dispSize = 0 ∧ o.dispPlOff = 0 ∧ o.dispPlLen = 0

/-- A frame is reported as routed, or as filtered with all dispatch fields at 0 (R163, R167). -/
def FrameReported (o : Outputs) : Prop :=
  (o.dispValid = true ∧ o.filtReason = .none) ∨ (DispatchIdle o ∧ o.filtReason ≠ .none)

theorem emitDispatch_reported (s : State) (r : RouteCode) (P : PayloadLen) (w : Nat × Nat) :
    FrameReported (s.emitDispatch r P w).out :=
  .inl ⟨rfl, rfl⟩

theorem filterFrame_reported (s : State) {f : FiltReason} (hf : f ≠ .none) : FrameReported (filterFrame f s).out :=
  .inr ⟨⟨rfl, rfl, rfl, rfl, rfl, rfl⟩, hf⟩

theorem gatedBy_reported {enabled : Bool} {s t : State} (ht : FrameReported t.out) :
    FrameReported (gatedBy enabled s t).out := by
  cases enabled
  · exact filterFrame_reported s (by decide)
  · exact ht

theorem addressed_reported {s t : State} (ht : FrameReported t.out) :
    FrameReported (if addressedHere s then t else filterFrame .addrMismatch s).out := by
  split
  · exact ht
  · exact filterFrame_reported s (by decide)

theorem commandChecked_reported (P : PayloadLen) (s : State) : FrameReported (commandChecked P s).out := by
  unfold commandChecked
  split
  · exact filterFrame_reported s (by decide)
  · split
    · exact filterFrame_reported s (by decide)
    · exact emitDispatch_reported ..

/-- Every arm of DISPATCH reports the frame (R150, R151). -/
theorem dispatch_reported {P : PayloadLen} {r : Bool} {s t : State} (h : dispatch P r s = .next t) :
    FrameReported t.out := by
  unfold dispatch at h
  cases hk : decodeKind s.params (s.fb.read 2) <;> rw [hk] at h <;> cases h
  case rcFixed => exact addressed_reported (emitDispatch_reported ..)
  case rcSubset | linkStatsTx => exact gatedBy_reported (addressed_reported (emitDispatch_reported ..))
  case mspReq | mspWrite | devicePing | displayport | linkStatsRx => exact gatedBy_reported (emitDispatch_reported ..)
  case linkStats =>
    split
    · exact emitDispatch_reported ..
    · exact filterFrame_reported s (by decide)
  case command => exact gatedBy_reported (commandChecked_reported ..)
  case unknownType => exact filterFrame_reported s (by decide)

/-- BYTE_IN says FRAME_VALID only where it dispatches (R126, R127). -/
theorem execByteIn_reported {b : Byte} {ts : Stamp} {r : Bool} {s t : State} (h : execByteIn b ts r s = .next t)
    (hev : t.out.rxEvent = .frameValid) : FrameReported t.out := by
  obtain ⟨-, h'⟩ | ⟨P, -, ⟨-, h'⟩ | ⟨-, u, -, ⟨-, h'⟩ | ⟨-, h'⟩⟩⟩ := execByteIn_cases b ts r s <;> rw [h'] at h
  · cases h
    simp [framingError] at hev
  · cases h
    cases hq : s.resynced ts <;> simp [advance, hq] at hev
  · exact dispatch_reported h
  · cases h
    simp [crcError] at hev

/-- Any other ending of BYTE_IN writes at most the event and the fallback request (R124, R125, R128). -/
theorem execByteIn_unreported {b : Byte} {ts : Stamp} {r : Bool} {s t : State} (h : execByteIn b ts r s = .next t)
    (hev : t.out.rxEvent ≠ .frameValid) :
    ∃ e f, t.out = { s.out with rxEvent := e, fallbackReq := f } := by
  obtain ⟨-, -, -, -, -, -, hout, -⟩ | ⟨_, -, -, ⟨-, -, -, -, -, -, hout⟩ | ⟨-, -, ⟨hvalid, -⟩ | ⟨-, -, -, -, hout⟩⟩⟩ :=
    execByteIn_spec h
  · exact ⟨_, _, hout⟩
  · exact ⟨_, _, hout⟩
  · exact absurd hvalid hev
  · exact ⟨_, _, hout⟩

/-- A step reports a frame exactly with FRAME_VALID; in every other step the dispatch outputs are idle. -/
theorem step_reported {s t : State} (h : step s = .next t) :
    (t.out.rxEvent = .frameValid ∧ FrameReported t.out) ∨
    (t.out.rxEvent ≠ .frameValid ∧ DispatchIdle t.out ∧ t.out.filtReason = .none) := by
  cases hr : s.currentInput.rst with
  | true =>
    obtain ⟨-, -, -, -, -, hout⟩ := step_resetting_spec hr h
    rw [hout]
    exact .inr ⟨nofun, ⟨rfl, rfl, rfl, rfl, rfl, rfl⟩, rfl⟩
  | false =>
    obtain ⟨-, rfl⟩ | ⟨-, hbyte⟩ := step_running_cases hr h
    · rw [State.beforeByte_out]
      exact .inr ⟨nofun, ⟨rfl, rfl, rfl, rfl, rfl, rfl⟩, rfl⟩
    · by_cases hev : t.out.rxEvent = .frameValid
      · exact .inl ⟨hev, execByteIn_reported hbyte hev⟩
      · obtain ⟨e, f, hout⟩ := execByteIn_unreported hbyte hev
        refine .inr ⟨hev, ?_⟩
        rw [hout, State.beforeByte_out]
        exact ⟨⟨rfl, rfl, rfl, rfl, rfl, rfl⟩, rfl⟩

/-- A step with a byte event is no reset step. -/
theorem running_of_rxEvent {s t : State} (h : step s = .next t) (hev : t.out.rxEvent ≠ .idle) :
    s.currentInput.rst = false :=
  Bool.eq_false_iff.2 fun hr => hev (step_resetting_rxEvent hr h)

/-- Settles O41: the report by `step_reported`, the counter by `step_counter`. -/
theorem validFrameRoutedOrFiltered : Obligations.ValidFrameRoutedOrFiltered := by
  intro s t h
  obtain ⟨hev, hrep⟩ | ⟨hev, hidle, hreason⟩ := step_reported h
  · have hcnt : t.errCnt = if s.params.v3 then 0 else s.errCnt := by
      obtain ⟨hother, -⟩ | ⟨-, hcnt, -⟩ | ⟨hother, -⟩ := step_counter (running_of_rxEvent h (by simp [hev])) h
      · simp [hev] at hother
      · exact hcnt
      · simp [hev] at hother
    refine ⟨fun _ => ⟨hrep.imp_right fun hfilt => ⟨hfilt.1.1, hfilt.2⟩, hcnt⟩, absurd hev, fun hv => ?_⟩
    obtain ⟨hv', -⟩ | ⟨⟨-, hfields⟩, -⟩ := hrep
    · rw [hv] at hv'; cases hv'
    · exact hfields
  · exact ⟨fun hev' => absurd hev' hev, fun _ => ⟨hidle.1, hreason⟩, fun _ => hidle.2⟩

/-- Settles O35: STORED_RESYNC is neither a failure nor a valid frame, in `step_counter` and in `step_reported`. -/
theorem resyncIsNotFailure : Obligations.ResyncIsNotFailure := by
  intro s t h hev
  obtain ⟨-, hcnt, hreq⟩ | ⟨hother, -⟩ | ⟨hother, -⟩ := step_counter (running_of_rxEvent h (by simp [hev])) h
  · obtain ⟨hvalid, -⟩ | ⟨-, hidle, hreason⟩ := step_reported h
    · simp [hev] at hvalid
    · exact ⟨hcnt, hreq, hidle.1, hreason⟩
  · simp [hev] at hother
  · simp [hev] at hother

/-! ## The invariant of the block -/

/-- A write at cursor 3 or beyond leaves the length byte, which stands at index 1. -/
theorem read_length_write {p : BufIdx} (h : 3 ≤ p.toNat) (m : Memory) (b : Byte) : (m.write p b).read 1 = m.read 1 :=
  m.read_write_other p b 1 (by omega)

/-- The cursor after a step: 0, as it was, or one further within a legal size once the size counts (R22, R124, R125). -/
theorem step_keeps_cursorInv {s t : State} (hs : CursorInv s) (hr : s.currentInput.rst = false)
    (h : step s = .next t) : CursorInv t := by
  obtain ⟨-, -, hfb, hpos⟩ | ⟨-, p, -, ⟨-, hfb, hlt, hmax, hpos⟩ | ⟨-, -, -, -, hpos⟩ | ⟨-, -, hpos⟩⟩ := step_cursor hr h
  · rwa [CursorInv, hfb, hpos]
  · by_cases hp : p.toNat < 3
    · exact .inl (by omega)
    · rw [sizeFor_of_ge (by omega)] at hlt hmax
      rw [CursorInv, hfb, read_length_write (by omega)]
      exact .inr ⟨by omega, hmax⟩
  · exact .inl (by simp [hpos])
  · exact .inl (by simp [hpos])

theorem step_keeps_counterInv {s t : State} (hs : CounterInv s) (hr : s.currentInput.rst = false)
    (h : step s = .next t) : CounterInv t := by
  obtain ⟨hle, hzero⟩ := hs
  rw [CounterInv, parametersAreFixed.2 s t h]
  obtain ⟨-, hcnt, -⟩ | ⟨-, hcnt, -⟩ | ⟨-, hcount⟩ := step_counter hr h
  · rw [hcnt]
    exact ⟨hle, hzero⟩
  · rw [hcnt]
    split
    · exact ⟨Nat.zero_le _, fun _ => rfl⟩
    · exact ⟨hle, hzero⟩
  · have hcases := hcount.cases
    rw [State.beforeByte_params, State.beforeByte_errCnt] at hcases
    obtain ⟨-, hcnt, -⟩ | ⟨-, -, hcnt, -⟩ | ⟨hv, hlt, hcnt, -⟩ := hcases
    · rw [hcnt]
      exact ⟨hle, hzero⟩
    · rw [hcnt]
      exact ⟨Nat.zero_le _, fun _ => rfl⟩
    · exact ⟨by omega, by simp [hv]⟩

/-- BYTE_IN leaves the snapshot waiting as it was, or takes an RC-channel frame for this device, complete under its own length
byte and so of legal size (R126, R152, R153). -/
theorem execByteIn_keeps_snapshotInv {b : Byte} {ts : Stamp} {r : Bool} {s t : State} (hs : SnapshotInv s)
    (h : execByteIn b ts r s = .next t) : SnapshotInv t := by
  obtain ⟨hparams, -⟩ := execByteIn_frame h
  have hkept (hsnap : t.snap = s.snap) (hready : t.ready = s.ready) : SnapshotInv t := by
    rwa [SnapshotInv, hsnap, hready, hparams]
  obtain ⟨-, -, -, hsnap, hready, -⟩ | ⟨P, hsize, hfb, hend⟩ := execByteIn_spec h
  · exact hkept hsnap hready
  · obtain ⟨-, -, hsnap, hready, -⟩ | ⟨hge, -, ⟨-, -, -, -, hdisp, -⟩ | ⟨hsnap, hready, -⟩⟩ := hend
    · exact hkept hsnap hready
    · obtain ⟨hsnap, hready, -⟩ | ⟨hsnap, -, haddr, htype⟩ := hdisp
      · exact hkept hsnap hready
      · have hP := P.isLt
        have hlen : (t.fb.read 1).toNat = P.val + 2 := by
          rw [sizeFor_of_ge (by omega)] at hsize
          rw [hfb, read_length_write (by omega)]
          omega
        rw [SnapshotInv, hsnap, hparams]
        exact fun _ => ⟨haddr, htype.imp And.left fun hsub => ⟨hsub.1, hsub.2.1⟩, by omega, by omega⟩
    · exact hkept hsnap hready

theorem step_keeps_snapshotInv {s t : State} (hs : SnapshotInv s) (hr : s.currentInput.rst = false)
    (h : step s = .next t) : SnapshotInv t := by
  have hbefore : SnapshotInv (s.beforeByte s.currentInput) := by
    intro hready
    rw [State.beforeByte_ready, Bool.and_eq_true] at hready
    simpa using hs hready.1
  obtain ⟨-, rfl⟩ | ⟨-, hbyte⟩ := step_running_cases hr h
  · exact hbefore
  · exact execByteIn_keeps_snapshotInv hbefore hbyte

theorem step_resetting_blockInv {s t : State} (hr : s.currentInput.rst = true) (h : step s = .next t) : BlockInv t := by
  obtain ⟨hfb, hsnap, hpos, hcnt, hready, -⟩ := step_resetting_spec hr h
  refine ⟨.inl (by simp [hpos]), by simp [CounterInv, hcnt], by simp [SnapshotInv, hready], ?_⟩
  rw [BuffersInv, hfb, hsnap]
  exact ⟨rfl, rfl⟩

/-- Settles O15: a reset step establishes each of the four invariants, and every other step keeps each. -/
theorem stepKeepsInvariants : Obligations.StepKeepsInvariants := by
  refine ⟨fun s t => step_resetting_blockInv, fun s t hs h => ?_⟩
  obtain ⟨hcursor, hcounter, hsnapshot, hbuffers⟩ := hs
  cases hr : s.currentInput.rst with
  | true => exact step_resetting_blockInv hr h
  | false =>
    exact ⟨step_keeps_cursorInv hcursor hr h, step_keeps_counterInv hcounter hr h,
      step_keeps_snapshotInv hsnapshot hr h, step_keeps_buffersInv hbuffers h⟩

/-! ## Runs -/

/-- A run of `n + 1` steps is one step and a run of `n`. -/
theorem run_succ (n : Nat) (s : State) :
    Host.Core.run core (n + 1) s = andThen (step s) (Host.Core.run core n) := by
  refine (Host.Core.run.eq_2 core s n).trans ?_
  show _ = andThen (core.step s) _
  cases core.step s <;> rfl

/-- A step consumes one pattern of the queue. -/
theorem step_inputs {s t : State} (h : step s = .next t) : t.inputs = s.inputs.tail := by
  cases hr : s.currentInput.rst with
  | true =>
    rw [step_resetting hr] at h
    cases h
    exact s.beginStep_inputs
  | false =>
    obtain ⟨-, rfl⟩ | ⟨-, hbyte⟩ := step_running_cases hr h
    · exact s.beforeByte_inputs _
    · obtain ⟨-, -, hin, -⟩ := execByteIn_frame hbyte
      rw [hin, State.beforeByte_inputs]

/-! ## The reuse window -/

/-- A step moves the cursor on by at most the byte it presents. -/
theorem step_pos_le {s t : State} (hr : s.currentInput.rst = false) (h : step s = .next t) :
    t.pos.toNat ≤ s.pos.toNat + s.currentInput.byteValid.toNat := by
  obtain ⟨-, -, -, hpos⟩ | ⟨hv, p, hp, ⟨-, -, -, -, hpos⟩ | ⟨-, -, -, -, hpos⟩ | ⟨-, -, hpos⟩⟩ := step_cursor hr h
  · simp [hpos]
  · have hle := cursorFor_toNat_le s s.currentInput.tsIn
    rw [hv, hpos, hp]
    exact Nat.add_le_add_right hle 1
  · simp [hpos]
  · simp [hpos]

/-- A byte beyond the cursor is not written. -/
theorem step_read_beyond {s t : State} {k : Nat} (hr : s.currentInput.rst = false) (h : step s = .next t)
    (hk : s.pos.toNat + s.currentInput.byteValid.toNat ≤ k) : t.fb.read k = s.fb.read k := by
  refine bufferChangesAtCursorOnly s t hr h k ?_
  have hle := cursorFor_toNat_le s s.currentInput.tsIn
  cases hv : s.currentInput.byteValid with
  | false => exact .inl rfl
  | true =>
    rw [hv, Bool.toNat_true] at hk
    exact .inr (by omega)

/-- A byte that the cursor cannot pass with the bytes presented stays through the run: by induction on the patterns. -/
theorem run_read_beyond {xs rest : List Inputs} {s u : State} {k : Nat} (hin : s.inputs = xs ++ rest)
    (hrst : ∀ x ∈ xs, x.rst = false) (hk : s.pos.toNat + (xs.filter (·.byteValid)).length ≤ k)
    (h : Host.Core.run core xs.length s = .next u) : u.fb.read k = s.fb.read k := by
  induction xs generalizing s with
  | nil => cases h; rfl
  | cons x xs ih =>
    rw [List.length_cons, run_succ] at h
    obtain ⟨t, ht, hrun⟩ := andThen_eq_next.1 h
    have hx : s.currentInput = x := s.currentInput_cons x _ hin
    have hr : s.currentInput.rst = false := by rw [hx]; exact hrst x List.mem_cons_self
    have hcount : ((x :: xs).filter (·.byteValid)).length = x.byteValid.toNat + (xs.filter (·.byteValid)).length := by
      cases hv : x.byteValid <;> simp [hv, Nat.add_comm]
    have hpos := step_pos_le hr ht
    rw [hx] at hpos
    rw [ih (by rw [step_inputs ht, hin]; rfl) (fun y hy => hrst y (List.mem_cons_of_mem x hy)) (by omega) hrun]
    exact step_read_beyond hr ht (by rw [hx]; omega)

/-- Settles O38: from cursor 0, at most k bytes do not bring the cursor past index k. -/
theorem dispatchedFrameStaysReadable : Obligations.DispatchedFrameStaysReadable := by
  intro xs s u rest k hpos hin hrst hk h
  exact run_read_beyond hin hrst (by simpa [hpos] using hk) h

/-! ## A whole frame -/

/-- A run of `n + 1` steps is a run of `n` and one step. -/
theorem run_succ_last (n : Nat) (s : State) :
    Host.Core.run core (n + 1) s = andThen (Host.Core.run core n s) step := by
  induction n generalizing s with
  | zero =>
    rw [run_succ]
    show _ = step s
    cases step s <;> rfl
  | succ n ih =>
    rw [run_succ, run_succ]
    cases step s with
    | next t => exact ih t
    | fault f => rfl
    | refused q => rfl

/-- A step with a byte is BYTE_IN on the state after POLL. -/
theorem step_byte {s : State} {x : Inputs} (hx : s.currentInput = x) (hr : x.rst = false) (hv : x.byteValid = true) :
    step s = exec (.byteIn x.byteIn x.tsIn x.cfgRssiSrcCrsf) (s.beforeByte x) := by
  subst hx
  rw [step_running s hr, if_pos hv, exec_byteIn]

/-- The patterns `xs` present the bytes `F`, one in each step, the first at `start` and all within the timeout after it. -/
structure Presents (F : List Byte) (start : Stamp) (xs : List Inputs) : Prop where
  bytes : xs.map (·.byteIn) = F
  running : ∀ x ∈ xs, x.rst = false
  byteValid : ∀ x ∈ xs, x.byteValid = true
  first : ∀ x, xs[0]? = some x → x.tsIn = start
  inTime : ∀ x ∈ xs, (x.tsIn - start).toNat ≤ 1100

/-- The assembler after the first `n` bytes of the frame `F` that `xs` presents: the cursor, the timestamp once the frame has
started, the bytes in the buffer, and the patterns still to come. -/
structure Received (F : List Byte) (start : Stamp) (xs rest : List Inputs) (n : Nat) (s : State) : Prop where
  pos : s.pos.toNat = n
  tStart : 0 < n → s.tStart = start
  inputs : s.inputs = xs.drop n ++ rest
  fb : ∀ k, k < n → F[k]? = some (s.fb.read k)

@[simp] theorem frameBytes_length (a t : Byte) (payload : List Byte) :
    (frameBytes a t payload).length = payload.length + 4 := by
  simp [frameBytes]

section
variable {F : List Byte} {start : Stamp} {xs rest : List Inputs} {n : Nat} {s : State}

/-- The next pattern of the frame. -/
theorem Received.next (hr : Received F start xs rest n s) (hp : Presents F start xs) (hn : n < F.length) :
    ∃ x, s.currentInput = x ∧ xs[n]? = some x ∧ F[n]? = some x.byteIn ∧ s.inputs.tail = xs.drop (n + 1) ++ rest := by
  have hlen : n < xs.length := by rwa [← hp.bytes, List.length_map] at hn
  have hin : s.inputs = xs[n] :: (xs.drop (n + 1) ++ rest) := by
    rw [hr.inputs, List.drop_eq_getElem_cons hlen]; rfl
  refine ⟨xs[n], s.currentInput_cons _ _ hin, List.getElem?_eq_getElem hlen, ?_, by rw [hin]; rfl⟩
  simp [← hp.bytes, hlen]

/-- A frame that has no byte yet stands at cursor 0, and no other does. -/
theorem Received.pos_eq_zero (hr : Received F start xs rest n s) : s.pos = 0 ↔ n = 0 := by
  rw [← hr.pos]
  exact BitVec.toNat_inj.symm

/-- No byte of the frame is late: the first has no partial frame before it, and the others are in time. -/
theorem Received.not_late (hr : Received F start xs rest n s) {ts : Stamp} (hts : (ts - start).toNat ≤ 1100) :
    ¬ (1100 < (ts - s.tStart).toNat ∧ s.pos ≠ 0) := by
  rintro ⟨hlate, hpos⟩
  rw [hr.tStart (Nat.pos_of_ne_zero (mt hr.pos_eq_zero.2 hpos))] at hlate
  omega

/-- The working cursor follows the bytes. -/
theorem Received.cursorFor_eq (hr : Received F start xs rest n s) {ts : Stamp} (hts : (ts - start).toNat ≤ 1100) :
    cursorFor s ts = s.pos := by
  unfold cursorFor
  split
  next hlate => exact (Decidable.not_not.1 fun hpos => hr.not_late hts ⟨hlate, hpos⟩).symm
  next => rfl

/-- The first byte takes the timestamp, and the others keep it (R122). -/
theorem Received.tStart_succ (hr : Received F start xs rest n s) (hp : Presents F start xs) {x : Inputs}
    (hx : xs[n]? = some x) : (if s.pos = 0 then x.tsIn else s.tStart) = start := by
  split
  next hzero =>
    obtain rfl : n = 0 := hr.pos_eq_zero.1 hzero
    exact hp.first x hx
  next hne => exact hr.tStart (Nat.pos_of_ne_zero (mt hr.pos_eq_zero.2 hne))

/-- One more byte in the buffer. -/
theorem Received.fb_succ (hr : Received F start xs rest n s) {b : Byte} (hb : F[n]? = some b) {m : Memory}
    (hm : ∀ k, m.read k = if k = n then b else s.fb.read k) {k : Nat} (hk : k < n + 1) : F[k]? = some (m.read k) := by
  rw [hm]
  split
  next heq => rw [heq, hb]
  next hne => exact hr.fb k (by omega)

end

section
variable {a t : Byte} {payload : List Byte} {start : Stamp} {xs rest : List Inputs} {n : Nat} {s : State}

/-- Under the frame's own length byte the size is the frame's (R71, R123). -/
theorem Received.sizeFor_eq (hr : Received (frameBytes a t payload) start xs rest n s) (hmax : payload.length ≤ 60)
    (hn : 3 ≤ n) : sizeFor s s.pos = payload.length + 4 := by
  have hlen := hr.fb 1 (by omega)
  have hread : BitVec.ofNat 8 (payload.length + 2) = s.fb.read 1 := by simpa [frameBytes] using hlen
  rw [sizeFor_of_ge (by rw [hr.pos]; exact hn), ← hread, BitVec.toNat_ofNat]
  omega

/-- Before the last byte the size is legal and not yet reached: provisional below cursor 3, then the frame's. -/
theorem Received.sizeFor_bounds (hr : Received (frameBytes a t payload) start xs rest n s) (hmax : payload.length ≤ 60)
    (hn : n + 1 < payload.length + 4) : 4 ≤ sizeFor s s.pos ∧ sizeFor s s.pos ≤ 64 ∧ n + 1 < sizeFor s s.pos := by
  by_cases h3 : n < 3
  · rw [sizeFor_of_lt (by rw [hr.pos]; exact h3)]
    omega
  · rw [hr.sizeFor_eq hmax (by omega)]
    omega

/-- A byte before the last is stored, and nothing is dispatched. -/
theorem Received.step_stored (hr : Received (frameBytes a t payload) start xs rest n s)
    (hp : Presents (frameBytes a t payload) start xs) (hmax : payload.length ≤ 60) (hn : n + 1 < payload.length + 4) :
    ∃ u, step s = .next u ∧ Received (frameBytes a t payload) start xs rest (n + 1) u ∧
      u.out.rxEvent = .stored ∧ u.out.dispValid = false ∧ u.out.filtReason = .none := by
  obtain ⟨x, hx, hget, hbyte, htail⟩ := hr.next hp (by rw [frameBytes_length]; omega)
  have hmem := List.mem_of_getElem? hget
  have hcursor := hr.cursorFor_eq (hp.inTime x hmem)
  obtain ⟨hmin, hfits, hlt⟩ := hr.sizeFor_bounds hmax hn
  obtain ⟨u, hu, hfb, hpos, hstart, hout, -, -, -, -, -, hin, -⟩ :=
    byteStoredAndCursorAdvanced x.byteIn x.tsIn x.cfgRssiSrcCrsf (s.beforeByte x) s.pos (by simp [hcursor])
      (by simpa using hmin) (by simpa using hfits) (by simpa [hr.pos] using hlt)
  rw [hr.pos] at hfb hpos
  rw [State.beforeByte_inputs, htail] at hin
  rw [State.beforeByte_fb] at hfb
  rw [State.beforeByte_tStart, hr.tStart_succ hp hget] at hstart
  rw [State.beforeByte_tStart, State.beforeByte_pos, if_neg (hr.not_late (hp.inTime x hmem)), State.beforeByte_out] at hout
  refine ⟨u, (step_byte hx (hp.running x hmem) (hp.byteValid x hmem)).trans hu,
    ⟨hpos, fun _ => hstart, hin, fun _ => hr.fb_succ hbyte hfb⟩, ?_⟩
  rw [hout]
  exact ⟨rfl, rfl, rfl⟩

/-- The bytes of the frame in the buffer carry a matching checksum (R70, R102). -/
theorem crc_of_frameBytes {m : Memory}
    (hm : ∀ k, k < payload.length + 4 → (frameBytes a t payload)[k]? = some (m.read k)) :
    crc8 0xD5#8 (m.slice 2 (payload.length + 2)) = m.read (payload.length + 3) := by
  have htail (j : Nat) (hj : j < payload.length + 2) :
      (t :: payload ++ [crc8 Config.polyFrame (t :: payload)])[j]? = some (m.read (2 + j)) := by
    rw [← hm (2 + j) (by omega), Nat.add_comm 2 j]
    rfl
  have hregion : t :: payload = m.slice 2 (payload.length + 2) := by
    refine Memory.eq_slice (by simp) fun j hj => ?_
    have hread := htail j (by rw [List.length_cons] at hj; omega)
    rwa [List.getElem?_append_left hj, List.getElem?_eq_getElem hj, Option.some.injEq] at hread
  have hlast := htail (payload.length + 1) (by omega)
  rw [List.getElem?_append_right (by simp)] at hlast
  rw [← hregion, show payload.length + 3 = 2 + (payload.length + 1) by omega]
  simpa [Config.polyFrame] using hlast

/-- The last byte completes the frame, which stands whole in the buffer. -/
theorem Received.step_completes (hr : Received (frameBytes a t payload) start xs rest n s)
    (hp : Presents (frameBytes a t payload) start xs) (hmax : payload.length ≤ 60) (hn : n + 1 = payload.length + 4) :
    ∃ u, step s = .next u ∧ u.out.rxEvent = .frameValid ∧ u.pos = 0 ∧ u.inputs = xs.drop (n + 1) ++ rest ∧
      ∀ k, k < payload.length + 4 → (frameBytes a t payload)[k]? = some (u.fb.read k) := by
  obtain ⟨x, hx, hget, hbyte, htail⟩ := hr.next hp (by rw [frameBytes_length]; omega)
  have hmem := List.mem_of_getElem? hget
  have hcursor := hr.cursorFor_eq (hp.inTime x hmem)
  have hframe : ∀ k, k < payload.length + 4 →
      (frameBytes a t payload)[k]? = some ((s.fb.write s.pos x.byteIn).read k) := fun k hk =>
    hr.fb_succ hbyte (fun j => by simp only [Memory.read_write, hr.pos, eq_comm]) (by omega)
  obtain ⟨P, hP⟩ : ∃ P : PayloadLen, P.val = payload.length := ⟨⟨_, by omega⟩, rfl⟩
  have hsize : sizeFor s s.pos = P.total := by rw [hr.sizeFor_eq hmax (by omega), PayloadLen.total, hP]
  obtain ⟨u, hu, hev, hpos, hin, hfb⟩ := execByteIn_valid (b := x.byteIn) (ts := x.tsIn) (r := x.cfgRssiSrcCrsf)
    (s := s.beforeByte x) (P := P) (by simpa [hcursor] using hsize)
    (by rw [cursorFor_beforeByte, hcursor, hr.pos, PayloadLen.total, hP, hn])
    (by simpa [hcursor, hP] using crc_of_frameBytes hframe)
  rw [State.beforeByte_fb, cursorFor_beforeByte, hcursor] at hfb
  rw [State.beforeByte_inputs, htail] at hin
  refine ⟨u, (step_byte hx (hp.running x hmem) (hp.byteValid x hmem)).trans hu, hev, hpos, hin, ?_⟩
  rwa [hfb]

/-- After every number of bytes short of the frame the run stands in `Received`, each byte having been stored. -/
theorem Received.run_stored (hr : Received (frameBytes a t payload) start xs rest 0 s)
    (hp : Presents (frameBytes a t payload) start xs) (hmax : payload.length ≤ 60) (hn : n < payload.length + 4) :
    ∃ u, Host.Core.run core n s = .next u ∧ Received (frameBytes a t payload) start xs rest n u ∧
      (0 < n → u.out.rxEvent = .stored ∧ u.out.dispValid = false ∧ u.out.filtReason = .none) := by
  induction n with
  | zero => exact ⟨s, rfl, hr, nofun⟩
  | succ n ih =>
    obtain ⟨v, hv, hrv, -⟩ := ih (by omega)
    obtain ⟨u, hu, hru, hout⟩ := hrv.step_stored hp hmax hn
    exact ⟨u, by rw [run_succ_last, hv]; exact hu, hru, fun _ => hout⟩

end

/-- Settles O40: by induction every byte before the last is stored (`Received.run_stored`), and the last completes the frame
(`Received.step_completes`). -/
theorem frameCompletesExactlyOnce : Obligations.FrameCompletesExactlyOnce := by
  intro s a t payload x xs rest hmax hpos hin hbytes hall
  have hp : Presents (frameBytes a t payload) x.tsIn (x :: xs) :=
    ⟨hbytes, fun y hy => (hall y hy).1, fun y hy => (hall y hy).2.1, by simp, fun y hy => (hall y hy).2.2⟩
  have hr : Received (frameBytes a t payload) x.tsIn (x :: xs) rest 0 s := ⟨by simp [hpos], nofun, hin, nofun⟩
  have hlen : (x :: xs).length = payload.length + 4 := by
    rw [← frameBytes_length a t payload, ← hbytes, List.length_map]
  rw [hlen, frameBytes_length]
  constructor
  · intro n hn
    obtain ⟨u, hu, -, hout⟩ := hr.run_stored hp hmax hn
    exact ⟨u, hu, hout n.succ_pos⟩
  · obtain ⟨v, hv, hrv, -⟩ := hr.run_stored (n := payload.length + 3) hp hmax (by omega)
    obtain ⟨u, hu, hev, hpos', hin', hfb⟩ := hrv.step_completes hp hmax rfl
    refine ⟨u, by rw [run_succ_last, hv]; exact hu, hev, hpos', ?_, hfb⟩
    rw [hin', ← hlen, List.drop_length, List.nil_append]

end Sys2Proof.Machine
end

section
/-! PROOFS. The frame dispatcher (42_dispatcher.md): the arm that each type byte selects (R151), and what each arm does with a
frame (R152 to R162), the reports of R163 and R167 written out. -/

namespace Sys2Proof.Machine

/-! ## The type byte -/

/-- A byte that is none of the ten codes passes every comparison of the decoder (R162). -/
theorem decodeKind_of_not_mem {p : Params} {t : Byte} (ht : t ∉ p.typeCodes) : decodeKind p t = .unknownType := by
  simp only [Params.typeCodes, List.mem_cons, List.not_mem_nil, or_false, not_or] at ht
  simp [decodeKind, ht]

/-- Settles O50: a code selects its own kind if its build option is on (`decodeKind_code`), any other byte none. -/
theorem typeByteSelectsItsArm : Obligations.TypeByteSelectsItsArm := by
  intro p hp
  have hcode (k : FrameKind) {t : Byte} (hk : k.code p = some t) :
      decodeKind p t = if kindEnabled p k then k else .unknownType := by
    rw [decodeKind_code hp.1 hk, Bool.cond_eq_ite]
  exact ⟨hcode .rcFixed rfl, hcode .rcSubset rfl, hcode .mspReq rfl, hcode .mspWrite rfl, hcode .devicePing rfl,
    hcode .displayport rfl, hcode .linkStats rfl, hcode .linkStatsRx rfl, hcode .linkStatsTx rfl, hcode .command rfl,
    fun _ => decodeKind_of_not_mem⟩

/-! ## The shared operations of the arms -/

section
variable (s : State) (P : PayloadLen)

theorem filterFrame_eq (f : FiltReason) : filterFrame f s = { s with out := filteredOut s.out f } :=
  s.emitFilter_filtered f

/-- A frame handed over with the default window: offset 3, length S - 4 (R164). -/
theorem emitDispatch_defaultWindow (r : RouteCode) :
    s.emitDispatch r P (defaultWindow P) = { s with out := routedOut s.out r (s.fb.read 2) (P.val + 4) 3 P.val } :=
  s.emitDispatch_routed r P (defaultWindow P)

/-- An accepted RC-channel frame: the report, and beside it only the snapshot and the latch (R152). -/
theorem acceptRc_eq (r : RouteCode) :
    acceptRc r P s = { s with
      snap := s.fb, ready := true, out := routedOut s.out r (s.fb.read 2) (P.val + 4) 3 P.val } :=
  emitDispatch_defaultWindow (s.takeSnapshot.setReady true) P r

theorem gatedBy_enabled {enabled : Bool} (h : enabled = true) (t : State) : gatedBy enabled s t = t :=
  if_pos h

theorem gatedBy_disabled {enabled : Bool} (h : enabled = false) (t : State) :
    gatedBy enabled s t = { s with out := filteredOut s.out .unknownType } := by
  rw [gatedBy, h, if_neg Bool.false_ne_true, filterFrame_eq]

/-- An arm behind a build option that takes a frame from any address: it routes with the option and filters without. -/
theorem gatedRoute_spec (enabled : Bool) (r : RouteCode) (w : Nat × Nat) :
    (enabled = true → Host.Outcome.next (φ := Fault) (ρ := Refusal) (gatedBy enabled s (s.emitDispatch r P w)) =
      .next { s with out := routedOut s.out r (s.fb.read 2) (P.val + 4) w.1 w.2 }) ∧
    (enabled = false → Host.Outcome.next (φ := Fault) (ρ := Refusal) (gatedBy enabled s (s.emitDispatch r P w)) =
      .next { s with out := filteredOut s.out .unknownType }) := by
  constructor <;> intro h
  · rw [gatedBy_enabled s h, State.emitDispatch_routed, PayloadLen.total]
  · rw [gatedBy_disabled s h]

theorem addressedHere_iff : addressedHere s = true ↔ s.fb.read 0 = s.params.addrFc :=
  decide_eq_true_iff

/-- The address test passes a frame for the flight controller (R79). -/
theorem addressed_match (h : s.fb.read 0 = s.params.addrFc) (t : State) :
    (if addressedHere s then t else filterFrame .addrMismatch s) = t :=
  if_pos ((addressedHere_iff s).2 h)

/-- The address test filters a frame for another address (R154, R160). -/
theorem addressed_mismatch (h : s.fb.read 0 ≠ s.params.addrFc) (t : State) :
    (if addressedHere s then t else filterFrame .addrMismatch s) = { s with out := filteredOut s.out .addrMismatch } := by
  rw [if_neg (mt (addressedHere_iff s).1 h), filterFrame_eq]

end

/-! ## The RC-channel types -/

/-- Settles O42: the address test of R154 decides. -/
theorem rcFixedRoute : Obligations.RcFixedRoute := by
  intro P s
  rw [exec_rcFixed, execRcFixed]
  refine ⟨fun haddr => ?_, fun haddr => ?_⟩
  · rw [addressed_match s haddr, acceptRc_eq]
  · rw [addressed_mismatch s haddr]

/-- Settles O43: the build option decides first (R162), then the address test of R154. -/
theorem rcSubsetRoute : Obligations.RcSubsetRoute := by
  intro P s
  rw [exec_rcSubset, execRcSubset]
  refine ⟨fun hv haddr => ?_, fun hv haddr => ?_, fun hv => ?_⟩
  · rw [gatedBy_enabled s hv, addressed_match s haddr, acceptRc_eq]
  · rw [gatedBy_enabled s hv, addressed_mismatch s haddr]
  · rw [gatedBy_disabled s hv]

/-! ## The telemetry types -/

/-- Settles O44: both arms are the gated route 3 with the MSP window. -/
theorem mspRoutes : Obligations.MspRoutes := by
  rintro P s _ (rfl | rfl)
  · exact gatedRoute_spec s P s.params.telem .msp (mspWindow P)
  · exact gatedRoute_spec s P s.params.telem .msp (mspWindow P)

/-- Settles O45: both arms are gated routes with the default window. -/
theorem pingAndDisplayportRoutes : Obligations.PingAndDisplayportRoutes := by
  rintro P s _ _ (⟨rfl, rfl⟩ | ⟨rfl, rfl⟩)
  · exact gatedRoute_spec s P s.params.telem .devicePing (defaultWindow P)
  · exact gatedRoute_spec s P s.params.telem .displayport (defaultWindow P)

/-! ## The link-statistics types -/

/-- Settles O46: the arm routes where its condition of R158 holds, and filters where either half of it fails. -/
theorem linkStatsRoute : Obligations.LinkStatsRoute := by
  intro P r s
  rw [exec_linkStats, execLinkStats]
  refine ⟨fun hr hP => ?_, fun hgate => ?_⟩
  · rw [if_pos (by simp [hr, hP]), emitDispatch_defaultWindow]
  · have hclosed : ¬ (r && P = s.params.linkStatsLen) = true := by
      obtain hr | hP := hgate
      · simp [hr]
      · simp [hP]
    rw [if_neg hclosed, filterFrame_eq]

/-- Settles O47: LINK_STATS_RX is a gated route; LINK_STATS_TX has the address test behind its gate. -/
theorem linkStatsRxTxRoutes : Obligations.LinkStatsRxTxRoutes := by
  intro P s
  obtain ⟨hrx, hrxOff⟩ := gatedRoute_spec s P s.params.v3 .linkStatsRx (defaultWindow P)
  rw [exec_linkStatsTx, execLinkStatsTx]
  refine ⟨hrx, fun hv haddr => ?_, fun hv haddr => ?_, fun hv => ⟨hrxOff hv, ?_⟩⟩
  · rw [gatedBy_enabled s hv, addressed_match s haddr, emitDispatch_defaultWindow]
  · rw [gatedBy_enabled s hv, addressed_mismatch s haddr]
  · rw [gatedBy_disabled s hv]

/-! ## Commands and unknown types -/

/-- The command arm writes only the outputs: which report it gives is the chain of R161, the inner CRC first. -/
theorem commandChecked_eq (P : PayloadLen) (s : State) :
    commandChecked P s = { s with
      out := if s.crc.cmdOk = false then filteredOut s.out .cmdCrcMismatch
        else if s.fb.read s.params.cmdAddrIndex.toNat ≠ s.params.cmdAddrValue then filteredOut s.out .cmdAddrMismatch
        else routedOut s.out .command (s.fb.read 2) (P.val + 4) 3 P.val } := by
  unfold commandChecked
  cases hok : s.crc.cmdOk with
  | false => exact filterFrame_eq s .cmdCrcMismatch
  | true =>
    by_cases haddr : s.fb.read s.params.cmdAddrIndex.toNat = s.params.cmdAddrValue
    · simp [haddr, emitDispatch_defaultWindow]
    · simp [haddr, filterFrame_eq]

/-- Settles O48: CMD_CRC latches the checksum of the body and its comparison with byte S - 2 (`cmdCrcCoversTypeAndBody`),
on which the chain of R161 then decides. -/
theorem commandRoute : Obligations.CommandRoute := by
  intro P s body c out hlen hread hc hout
  rw [exec_command, execCommand]
  refine ⟨fun hv => ?_, fun hv => ?_⟩
  · have hcrc : s.evalCmdCrc P = { s with
        crc := { s.crc with cmdCrc := c, cmdOk := decide (c = s.fb.read (P.val + 2)) } } :=
      hc ▸ Host.Outcome.next.inj (cmdCrcCoversTypeAndBody P s body hlen hread)
    rw [gatedBy_enabled s hv, hcrc, commandChecked_eq, hout]
    simp only [decide_eq_false_iff_not, ne_eq]
  · rw [gatedBy_disabled s hv]

/-- Settles O49: the arm is the filter with reason UNKNOWN_TYPE, whatever the type byte. -/
theorem unknownTypeIgnored : Obligations.UnknownTypeIgnored := by
  intro t s
  rw [exec_unknownType, execUnknownType, filterFrame_eq]

end Sys2Proof.Machine
end

section
/-! PROOFS. The channel unpacker (43_channel_unpacker.md): SUBSET_DECODE's rolling accumulator against its closed form (R184),
what POLL writes (R180 to R187), and the channel read contract (R188, R189). -/

namespace Sys2Proof.Machine

/-! ## The rolling accumulator -/

/-- The loop invariant of R184: the accumulator holds the `bits` payload bits from `b` on, up to the end of payload byte
`k - 1`, and nothing above them. -/
def Accumulates (m : Memory) (b acc bits k : Nat) : Prop :=
  b + bits = 8 * k ∧
    ∀ i, acc.testBit i = (decide (i < bits) && (m.read (3 + (b + i) / 8)).getLsbD ((b + i) % 8))

section
variable {m : Memory} {b acc bits k : Nat}

/-- The start values of R184: the first payload byte without its low five bits. -/
theorem accumulates_start (m : Memory) : Accumulates m 5 ((m.read 3).toNat >>> 5) 3 1 := by
  refine ⟨rfl, fun i => ?_⟩
  rw [Nat.testBit_shiftRight]
  by_cases hi : i < 3
  · have hdiv : (5 + i) / 8 = 0 := by omega
    have hmod : (5 + i) % 8 = 5 + i := by omega
    simp only [hi, hdiv, hmod, decide_true, Bool.true_and]
    rfl
  · simp only [hi, decide_false, Bool.false_and]
    exact BitVec.getLsbD_of_ge (m.read 3) (5 + i) (by omega)

/-- Taking in payload byte `k` above the bits held. -/
theorem Accumulates.byte (h : Accumulates m b acc bits k) :
    Accumulates m b (acc ||| ((m.read (3 + k)).toNat <<< bits)) (bits + 8) (k + 1) := by
  obtain ⟨hend, hacc⟩ := h
  refine ⟨by omega, fun i => ?_⟩
  rw [Nat.testBit_or, Nat.testBit_shiftLeft, hacc]
  by_cases hlow : i < bits
  · have hge : ¬ bits ≤ i := by omega
    have hlt : i < bits + 8 := by omega
    simp only [hlow, hge, hlt, decide_true, decide_false, Bool.true_and, Bool.false_and, Bool.or_false]
  · have hge : bits ≤ i := by omega
    simp only [hlow, hge, decide_true, decide_false, Bool.true_and, Bool.false_and, Bool.false_or]
    by_cases hlt : i < bits + 8
    · have hdiv : (b + i) / 8 = k := by omega
      have hmod : (b + i) % 8 = i - bits := by omega
      simp only [hlt, hdiv, hmod, decide_true, Bool.true_and]
      rfl
    · simp only [hlt, decide_false, Bool.false_and]
      exact BitVec.getLsbD_of_ge (m.read (3 + k)) (i - bits) (by omega)

/-- The inner loop keeps the invariant, and ends with a whole field once it may take in enough bytes. -/
theorem Accumulates.refill {fuel : Nat} (h : Accumulates m b acc bits k) (hfuel : 11 ≤ bits + 8 * fuel) :
    ∃ acc' bits' k', rollRefill m fuel acc bits k = (acc', bits', k') ∧ 11 ≤ bits' ∧ Accumulates m b acc' bits' k' := by
  induction fuel generalizing acc bits k with
  | zero => exact ⟨acc, bits, k, rfl, hfuel, h⟩
  | succ fuel ih =>
    rw [rollRefill]
    split
    · exact ih h.byte (by omega)
    · exact ⟨acc, bits, k, rfl, by omega, h⟩

/-- The low 11 bits held are the field at `b`. -/
theorem Accumulates.field (h : Accumulates m b acc bits k) (hbits : 11 ≤ bits) : BitVec.ofNat 11 acc = field11 m b := by
  refine BitVec.eq_of_getLsbD_eq fun j hj => ?_
  have hheld : j < bits := by omega
  rw [field11_getLsbD m b j hj, BitVec.getLsbD_ofNat, h.2]
  simp [hj, hheld]

/-- Shifting a field out leaves the bits after it. -/
theorem Accumulates.shift (h : Accumulates m b acc bits k) (hbits : 11 ≤ bits) :
    Accumulates m (b + 11) (acc >>> 11) (bits - 11) k := by
  obtain ⟨hend, hacc⟩ := h
  refine ⟨by omega, fun i => ?_⟩
  have hheld : 11 + i < bits ↔ i < bits - 11 := by omega
  rw [Nat.testBit_shiftRight, hacc, ← Nat.add_assoc]
  simp only [hheld]

end

/-- The outer loop from field n on, channel by channel: `left` channels from `start + n` take their fields, each where the
closed form of R81 finds it. -/
theorem rollFields_getElem {m : Memory} {start left n acc bits k : Nat} {ch : Vector ChVal 16}
    (h : Accumulates m (5 + 11 * n) acc bits k) (i : Nat) (hi : i < 16) :
    (rollFields m start left n acc bits k ch)[i] =
      if start + n ≤ i ∧ i < start + n + left then field11 m (5 + 11 * (i - start)) else ch[i] := by
  induction left generalizing n acc bits k ch with
  | zero => rw [if_neg (by omega)]; rfl
  | succ left ih =>
    obtain ⟨acc', bits', k', hrefill, hbits, h'⟩ := h.refill (fuel := 2) (by omega)
    rw [rollFields, hrefill]
    dsimp only
    rw [ih (n := n + 1) (h'.shift hbits), h'.field hbits]
    by_cases hhere : start + n = i
    · subst hhere
      have hn : start + n - start = n := by omega
      simp [hi, hn]
    · have hkept : (if start + n < 16 then ch.setIfInBounds (start + n) (field11 m (5 + 11 * n)) else ch)[i] = ch[i] := by
        split
        · exact Vector.getElem_setIfInBounds_ne hi hhere
        · rfl
      have hrange : (start + (n + 1) ≤ i ∧ i < start + (n + 1) + left) ↔
          (start + n ≤ i ∧ i < start + n + (left + 1)) := by omega
      simp only [hkept, hrange]

/-- Settles O56: channel by channel, the outer loop from the start values of R184 against the closed form. -/
theorem rollingAccumulatorEqualsClosedForm : Obligations.RollingAccumulatorEqualsClosedForm := by
  intro m ch
  refine Vector.ext fun i hi => ?_
  rw [subsetDecodeRolling, rollFields_getElem (n := 0) (accumulates_start m), subsetDecode_getElem, Nat.add_zero]

/-! ## POLL -/

/-- Settles O52: nothing waits, so POLL answers PENDING. -/
theorem pollPending : Obligations.PollPending :=
  fun _ => execPoll_of_not_ready

/-- POLL of a waiting snapshot (R180): COMPLETE, the latch cleared, and the channels that the snapshot decodes to. -/
theorem exec_poll_of_ready {s : State} (hready : s.ready = true) :
    exec .poll s = .next { s with
      ready := false, ch := decodeSnapshot s, out := { s.out with pollDone := true, pollStatus := .complete } } := by
  rw [exec_poll, execPoll, if_pos hready]
  rfl

/-- A fixed-format snapshot decodes by FIXED_DECODE (R182). -/
theorem decodeSnapshot_fixed {s : State} (htype : s.snap.read 2 = s.params.typeRc) :
    decodeSnapshot s = fixedDecode s.snap :=
  if_pos htype

/-- With version 3, a subset-format snapshot decodes by SUBSET_DECODE (R182). -/
theorem decodeSnapshot_subset {s : State} (hv : s.params.v3 = true) (hne : s.params.typeRc ≠ s.params.typeSubset)
    (htype : s.snap.read 2 = s.params.typeSubset) : decodeSnapshot s = subsetDecode s.snap s.ch := by
  simp [decodeSnapshot, hv, htype, hne.symm]

/-- A snapshot of neither type decodes to the channels as they stand (R180). -/
theorem decodeSnapshot_other {s : State} (hfixed : s.snap.read 2 ≠ s.params.typeRc)
    (hsubset : s.params.v3 = false ∨ s.snap.read 2 ≠ s.params.typeSubset) : decodeSnapshot s = s.ch := by
  rw [decodeSnapshot, if_neg hfixed, if_neg]
  obtain hv | htype := hsubset
  · simp [hv]
  · simp [htype]

/-- Settles O53: POLL writes FIXED_DECODE, whose channel i is the field at payload bit 11·i. -/
theorem pollDecodesFixedFormat : Obligations.PollDecodesFixedFormat := by
  intro s hready htype
  refine ⟨fixedDecode s.snap, fun i hi j hj => ?_, ?_⟩
  · rw [fixedDecode_getElem, field11_getLsbD s.snap _ j hj]
  · rw [exec_poll_of_ready hready, decodeSnapshot_fixed htype]

/-- The mask 0x1F of R81 takes the low five bits. -/
theorem subsetStart_eq (m : Memory) : subsetStart m = (m.read 3).toNat % 32 := by
  rw [subsetStart, BitVec.toNat_and]
  exact Nat.and_two_pow_sub_one_eq_mod _ 5

/-- The count of R81 falls under its guard without payload only (R185): one payload byte already has the five start bits. -/
theorem subsetCount_eq (m : Memory) :
    subsetCount m = if snapPayload m = 0 then 0 else (8 * snapPayload m - 5) / 11 := by
  rw [subsetCount]
  by_cases hP : snapPayload m = 0
  · rw [if_pos hP, if_neg (by omega)]
  · rw [if_neg hP, if_pos (by omega)]

/-- Settles O54: POLL writes SUBSET_DECODE in its closed form, whose field n stands at payload bit 5 + 11·n. -/
theorem pollDecodesSubsetFormat : Obligations.PollDecodesSubsetFormat := by
  intro s P start count hready hv hne htype hP hstart hcount
  have hstart' : subsetStart s.snap = start := (subsetStart_eq s.snap).trans hstart.symm
  have hcount' : subsetCount s.snap = count := by
    rw [subsetCount_eq, snapPayload, ← hP, hcount]
  refine ⟨subsetDecode s.snap s.ch, fun n hn h j hj => ?_, fun i hi hout => ?_, ?_⟩
  · have hfield : start + n - start = n := by omega
    rw [subsetDecode_getElem, hstart', hcount', if_pos (by omega), hfield, field11_getLsbD s.snap _ j hj]
  · rw [subsetDecode_getElem, hstart', hcount', if_neg (by omega)]
  · rw [exec_poll_of_ready hready, decodeSnapshot_subset hv hne htype]

/-- Settles O55: the snapshot decodes to the channels as they stand. -/
theorem pollOtherTypeWritesNoChannel : Obligations.PollOtherTypeWritesNoChannel := by
  intro s hready hfixed hsubset
  rw [exec_poll_of_ready hready, decodeSnapshot_other hfixed hsubset]

/-! ## The channel read contract -/

/-- What a step shows of the read contract (R188, R189): the selected channel as it stood at the start of the step, since
READ_CH runs before anything writes a channel, and the two constants, which no operation drives. -/
theorem step_readContract {s t : State} (h : step s = .next t) :
    t.out.chData = s.ch[s.currentInput.chIdx.toNat]'s.currentInput.chIdx.isLt ∧
    t.out.numChannels = Outputs.idle.numChannels ∧ t.out.refreshUs = Outputs.idle.refreshUs := by
  cases hr : s.currentInput.rst with
  | true => rw [step_resetting hr] at h; cases h; exact ⟨rfl, rfl, rfl⟩
  | false =>
    obtain ⟨-, rfl⟩ | ⟨-, hbyte⟩ := step_running_cases hr h
    · simp
    · obtain ⟨-, -, -, -, -, -, hchData, -, hnum, hrefresh, -⟩ := execByteIn_frame hbyte
      simp [hchData, hnum, hrefresh]

/-- Settles O5: READ_CH drives `ch_data` alone, and no later operation of the step drives it again. -/
theorem readChShowsStartOfStep : Obligations.ReadChShowsStartOfStep :=
  ⟨fun _ _ => rfl, fun _ _ h => (step_readContract h).1⟩

/-- Settles O7: after every step the two outputs have their idle values, 16 and 6667. -/
theorem contractConstantsNeverChange : Obligations.ContractConstantsNeverChange := by
  intro s t h
  obtain ⟨-, hnum, hrefresh⟩ := step_readContract h
  rw [hnum, hrefresh]
  decide

end Sys2Proof.Machine
end

section
/-! PROOFS. Exceptional outcomes (60_exceptions.md): the block has none (R210). -/

namespace Sys2Proof.Machine

/-- An operation ends in a next state: BYTE_IN in each of its four endings, every other operation by the form of its
meaning, which is one next state (R210). -/
theorem exec_next (i : Instr) (s : State) : ∃ t, exec i s = .next t := by
  cases i with
  | byteIn b ts r => exact execByteIn_next b ts r s
  | reset | nop | poll | readCh | fbRead => exact ⟨_, rfl⟩
  | rcFixed | rcSubset | mspReq | mspWrite | devicePing | displayport => exact ⟨_, rfl⟩
  | linkStats | linkStatsRx | linkStatsTx | command | unknownType => exact ⟨_, rfl⟩
  | frameCrc | cmdCrc => exact ⟨_, rfl⟩

/-- Operations run one after the other end in a next state, since each of them does. -/
theorem runOps_exec_next (is : List Instr) (s : State) : ∃ t, runOps exec is s = .next t := by
  induction is generalizing s with
  | nil => exact ⟨s, runOps_nil exec s⟩
  | cons i is ih =>
    obtain ⟨u, hu⟩ := exec_next i s
    obtain ⟨t, ht⟩ := ih u
    exact ⟨t, andThen_eq_next.2 ⟨u, hu, ht⟩⟩

/-- Settles O9: no operation faults or refuses, and a step is a list of operations after `beginStep`. -/
theorem everyStepHasNextState : Obligations.EveryStepHasNextState :=
  ⟨exec_next, fun s => runOps_exec_next s.selectedOps s.beginStep⟩

end Sys2Proof.Machine
end

section
/-! PROOFS. Reset and hazards (70_reset_and_hazards.md): what RESET leaves (R230) and that it is the whole of its step
(R231), where the two configuration inputs are sampled (R237), and that a step starts from idle outputs (R239). -/

namespace Sys2Proof.Machine

/-! ## Reset -/

/-- Settles O1: an empty buffer reads 0x00, and clearing a cleared state changes nothing. -/
theorem resetLeavesResetValues : Obligations.ResetLeavesResetValues := by
  intro d s
  exact ⟨_, exec_reset s d, Memory.read_nil, Memory.read_nil, rfl, rfl, rfl, rfl, fun _ => Vector.getElem_replicate,
    rfl, rfl, rfl, rfl, rfl, rfl⟩

/-- Settles O2: RESET is the one strobed operation of the step (`step_resetting`), so the byte and the poll have no part in
what it leaves; before it the step has consumed the pattern and driven the read ports. -/
theorem resetStepDominates : Obligations.ResetStepDominates := by
  intro s hr
  exact ⟨_, step_resetting hr, Memory.read_nil, Memory.read_nil, rfl, rfl, rfl, rfl, fun _ => Vector.getElem_replicate,
    rfl, s.beginStep_params, s.beginStep_inputs⟩

/-! ## The outputs of an earlier step -/

/-- The start of a step overwrites whatever the outputs and the checksum wires hold. -/
theorem State.beginStep_outputs (s : State) (o : Outputs) (c : CrcWires) :
    State.beginStep { s with out := o, crc := c } = s.beginStep := by
  unfold State.beginStep
  cases s.inputs <;> rfl

/-- Settles O14: the outputs have no part in what a step selects, and are gone once it begins. -/
theorem outputsAreNotState : Obligations.OutputsAreNotState := by
  intro s o c
  rw [step, State.beginStep_outputs]
  rfl

/-! ## The configuration inputs -/

/-- `cfg_ch_default` is an operand of RESET only (R33). -/
theorem decodePorts_chDefault {x : Inputs} (hr : x.rst = false) (d : ChVal) :
    decodePorts { x with cfgChDefault := d } = decodePorts x := by
  simp only [decodePorts, readPorts, strobes_eq, hr, Bool.false_eq_true, if_false]

/-- `cfg_rssi_src_crsf` is an operand of BYTE_IN only (R32), which a reset step does not select. -/
theorem decodePorts_rssiSrc {x : Inputs} (hno : x.rst = true ∨ x.byteValid = false) (r : Bool) :
    decodePorts { x with cfgRssiSrcCrsf := r } = decodePorts x := by
  simp only [decodePorts, readPorts, strobes_eq]
  obtain hr | hv := hno
  · simp only [hr, if_true]
  · cases x.poll <;> simp only [hv]

/-- A step is the operations its pattern selects, on a state that no longer holds the pattern. -/
theorem step_queue_cons (s : State) (x : Inputs) (xs : List Inputs) :
    step { s with inputs := x :: xs } =
      runOps exec (decodePorts x) { s with inputs := xs, out := Outputs.idle, crc := CrcWires.idle } :=
  rfl

/-- Only the code of the link-statistics type selects its arm (R151). -/
theorem decodeKind_ne_linkStats {p : Params} {t : Byte} (ht : t ≠ p.typeLinkStats) : decodeKind p t ≠ .linkStats := by
  unfold decodeKind
  rw [if_neg ht]
  repeat' split
  all_goals decide

/-- The RSSI source is an operand of the link-statistics arm only (R158). -/
theorem decodeType_rssiSrc {p : Params} {t : Byte} (ht : t ≠ p.typeLinkStats) (P : PayloadLen) (r r' : Bool) :
    decodeType p t P r = decodeType p t P r' := by
  have hkind := decodeKind_ne_linkStats ht
  unfold decodeType
  cases hk : decodeKind p t with
  | linkStats => exact absurd hk hkind
  | _ => rfl

/-- The completion of a frame does not look at the RSSI source, but for handing it to DISPATCH with a valid frame (R127). -/
theorem completeFrame_rssiSrc_cases (P : PayloadLen) (r r' : Bool) (s : State) :
    completeFrame P r' s = completeFrame P r s ∨
    ∃ u : State, u.params = s.params ∧ u.out.rxEvent = .frameValid ∧
      completeFrame P r s = dispatch P r u ∧ completeFrame P r' s = dispatch P r' u := by
  unfold completeFrame
  dsimp only
  cases ((s.setPos 0).evalFrameCrc P).crc.frameOk with
  | true => exact .inr ⟨_, by simp [frameValid], by simp [frameValid], rfl, rfl⟩
  | false => exact .inl rfl

/-- BYTE_IN does not look at the RSSI source, but for handing it to DISPATCH with a valid frame (R127, R150). -/
theorem execByteIn_rssiSrc_cases (b : Byte) (ts : Stamp) (r r' : Bool) (s : State) :
    execByteIn b ts r' s = execByteIn b ts r s ∨
    ∃ (P : PayloadLen) (u : State), u.params = s.params ∧ u.out.rxEvent = .frameValid ∧
      execByteIn b ts r s = dispatch P r u ∧ execByteIn b ts r' s = dispatch P r' u := by
  unfold execByteIn
  dsimp only
  cases payloadLenOf (frameSizeAt s.fb (s.workingPos ts)) with
  | none => exact .inl rfl
  | some P =>
    by_cases hmore : (s.workingPos ts).toNat + 1 < P.total
    · simp only [if_pos hmore, true_or]
    · simp only [if_neg hmore]
      refine (completeFrame_rssiSrc_cases P r r' _).imp_right fun ⟨u, hparams, hu⟩ => ⟨P, u, ?_, hu⟩
      simpa using hparams

/-- A BYTE_IN that does not complete a valid frame of the link-statistics type is the same with another RSSI source. -/
theorem execByteIn_rssiSrc {b : Byte} {ts : Stamp} {r : Bool} {s t : State} (h : execByteIn b ts r s = .next t)
    (hno : t.out.rxEvent ≠ .frameValid ∨ t.fb.read 2 ≠ s.params.typeLinkStats) (r' : Bool) :
    execByteIn b ts r' s = .next t := by
  obtain hsame | ⟨P, u, hparams, hvalid, hr, hr'⟩ := execByteIn_rssiSrc_cases b ts r r' s
  · rw [hsame, h]
  · obtain ⟨t', ht', -, hfb, -, -, -, -, -, -, hev, -⟩ := dispatch_spec P r u
    rw [hr] at h
    obtain rfl : t' = t := Host.Outcome.next.inj (ht'.symm.trans h)
    have htype : u.fb.read 2 ≠ u.params.typeLinkStats := by
      rw [← hfb, hparams]
      exact hno.resolve_left (not_not_intro (hev.trans hvalid))
    rw [hr', ← h, dispatch_eq_exec, dispatch_eq_exec, decodeType_rssiSrc htype P r' r]

/-- Settles O12: `cfg_ch_default` reaches RESET only, `cfg_rssi_src_crsf` reaches BYTE_IN only, and of BYTE_IN only the
link-statistics arm (`execByteIn_rssiSrc`). -/
theorem configInputsSampledWhereStated : Obligations.ConfigInputsSampledWhereStated := by
  intro s t x xs d r h
  refine ⟨fun hr => ?_, fun hno => ?_⟩
  · rw [← h, step_queue_cons, step_queue_cons, decodePorts_chDefault hr]
  · by_cases hbyte : x.rst = false ∧ x.byteValid = true
    · obtain ⟨hr, hv⟩ := hbyte
      rw [step_byte (x := x) rfl hr hv] at h
      rw [step_byte (x := { x with cfgRssiSrcCrsf := r }) rfl hr hv]
      exact execByteIn_rssiSrc h (by rwa [State.beforeByte_params]) r
    · have hnone : x.rst = true ∨ x.byteValid = false := by
        simpa only [not_and_or, Bool.not_eq_false, Bool.not_eq_true] using hbyte
      rw [← h, step_queue_cons, step_queue_cons, decodePorts_rssiSrc hnone]

end Sys2Proof.Machine
end

section
/-! PROOFS. The cursor invariant in the words of R22 (10_state.md), which BYTE_IN does not keep: the size is first checked on
the byte after the cursor has become 3 (41_frame_assembler.md R123, R124; log entry 9). -/

namespace Sys2Proof.Machine

/-- What every step keeps, a run keeps. -/
theorem run_keeps {I : State → Prop} (hstep : ∀ s t, I s → step s = .next t → I t) {n : Nat} {s t : State} (hs : I s)
    (h : Host.Core.run core n s = .next t) : I t := by
  induction n generalizing s with
  | zero => cases h; exact hs
  | succ n ih =>
    rw [run_succ] at h
    obtain ⟨u, hu, hrun⟩ := andThen_eq_next.1 h
    exact ih (hstep s u hs hu) hrun

/-- From reset on, the first three bytes of V-B6 with L = FF, 10 microseconds apart. -/
def badLengthStart : State :=
  { State.reset with inputs := [
      { Inputs.zero with byteValid := true, byteIn := 0xC8, tsIn := 0 },
      { Inputs.zero with byteValid := true, byteIn := 0xFF, tsIn := 10 },
      { Inputs.zero with byteValid := true, byteIn := 0x16, tsIn := 20 }] }

/-- The third byte is stored under the provisional size (R123), so the cursor reaches 3 with the length byte unchecked. -/
theorem run_badLengthStart :
    ∃ t, Host.Core.run core 3 badLengthStart = .next t ∧ t.pos = 3 ∧ t.fb.read 1 = 0xFF :=
  ⟨_, rfl, rfl, rfl⟩

/-- Refutes O16: after `badLengthStart`'s run from reset the cursor is 3 and the length byte gives S = 257. -/
theorem not_cursorInvariantAsWorded : ¬ Obligations.CursorInvariantAsWorded := by
  intro hstep
  obtain ⟨t, hrun, hpos, hlength⟩ := run_badLengthStart
  have hstart : CursorAsWorded badLengthStart := .inl (by decide)
  obtain hearly | ⟨-, hmax⟩ : CursorAsWorded t := run_keeps hstep hstart hrun
  · simp [hpos] at hearly
  · simp [hlength] at hmax

end Sys2Proof.Machine
end
